-- ==== Sys2Proof/Word.lean ====
section
/-!
DEFINITION. Sys2Proof/Word.lean: the widths the spec names (00_scope.md R11).
A byte, a 32-bit register word and a 64-bit pattern. Byte order lives in Machine/Operands.lean.
-/

namespace Sys2Proof

/-- An 8-bit unsigned value, `0xHH` in the spec (R11). -/
abbrev Byte := BitVec 8

/-- A 32-bit value: a host-visible register (10_state.md section 4) or an f32 bit pattern (R107). -/
abbrev Word := BitVec 32

/-- A 64-bit value: an f64 bit pattern (R107, R109). -/
abbrev Quad := BitVec 64

end Sys2Proof
end

