-- ==== Sys2Proof/Config.lean ====
section
/-!
DEFINITION. Sys2Proof/Config.lean: what one instance of the block fixes for its life (00_scope.md R3), and
the values the environment alone decides. Nothing here has a body that a proof could read a number from:
`Config.chip` and `Config.pinAtPowerOn` are opaque (log entries 1 and 2).
-/

namespace Sys2Proof

/-- OVF_POLICY (R3, R151; 92 D7): what an overflowing ring-buffer Write does with its own chunk. -/
inductive OvfPolicy where
  | clearThenWrite
  | clearAndDrop
  deriving DecidableEq, Repr

/-- CODE (R3, R104, R105; 92 D11): the byte values of the thirteen frame codes. -/
structure Codes where
  enableDisable  : Byte
  ping           : Byte
  getConfig      : Byte
  getStatus      : Byte
  setStimulation : Byte
  setPhases      : Byte
  ack            : Byte
  nack           : Byte
  pingAck        : Byte
  returnConfig   : Byte
  returnStatus   : Byte
  sack           : Byte
  error          : Byte
  deriving DecidableEq, Repr

/-- The six command codes, host to device (R104). -/
def Codes.commands (c : Codes) : List Byte :=
  [c.enableDisable, c.ping, c.getConfig, c.getStatus, c.setStimulation, c.setPhases]

/-- The seven response codes, device to host (R105). -/
def Codes.responses (c : Codes) : List Byte :=
  [c.ack, c.nack, c.pingAck, c.returnConfig, c.returnStatus, c.sack, c.error]

/-- STIM_CODE (R3, R110; 92 D12): the wire byte of each stimulation variant. -/
structure StimCodes where
  point     : Byte
  vibration : Byte
  linear    : Byte
  circular  : Byte
  deriving DecidableEq, Repr

/-- A port's name or a denylist entry, as its exact characters (R263). -/
abbrev PortName := List Char

/-- The parameters of R3. They are not state (R46) and no step changes them. -/
structure Params where
  /-- N_PORTS, the number of serial lanes. -/
  nPorts    : Nat
  /-- PORT_NAME[p], one name a port. -/
  portName  : List PortName
  /-- DENYLIST, the substrings that keep a port out of scans. -/
  denylist  : List PortName
  /-- RB_CAP, the ring-buffer capacity of every lane, in bytes. -/
  rbCap     : Nat
  /-- OVF_POLICY. -/
  ovfPolicy : OvfPolicy
  /-- RD_CHUNK, the depth of every lane's staging FIFO. -/
  rdChunk   : Nat
  /-- CODE. -/
  code      : Codes
  /-- STIM_CODE. -/
  stimCode  : StimCodes
  deriving DecidableEq, Repr

/-- The constraints R3, R104, R105 and R110 put on the parameters. A command value may equal a response
value (R386). -/
abbrev Params.wf (pr : Params) : Prop :=
  1 ≤ pr.nPorts ∧ pr.nPorts ≤ 32 ∧ pr.portName.length = pr.nPorts ∧ 1 ≤ pr.rbCap ∧ 1 ≤ pr.rdChunk ∧
  pr.code.commands.Nodup ∧ pr.code.responses.Nodup ∧
  [pr.stimCode.point, pr.stimCode.vibration, pr.stimCode.linear, pr.stimCode.circular].Nodup

/-- Parameters that meet R3's constraints. The default field values only show that such parameters exist
(Lean asks it of an opaque constant); no proof can see them through `Config.chip`. -/
structure ValidParams where
  val : Params :=
    { nPorts := 1, portName := [[]], denylist := [], rbCap := 1, ovfPolicy := .clearThenWrite, rdChunk := 1,
      code := ⟨0, 1, 2, 3, 4, 5, 6, 7, 8, 9, 10, 11, 12⟩, stimCode := ⟨0, 1, 2, 3⟩ }
  ok : val.wf := by decide
  deriving Inhabited

/-- What the environment holds at one port's inputs (R9, R15): PORT_PRESENT, and the value each `draw` of
that port would take now. The environment changes them at any time (`EnvStep.setPin`). -/
structure Pin where
  /-- PORT_PRESENT[p], sampled at scan start (R262). -/
  present : Bool
  /-- OPEN_OK(p), the platform's answer to an open (R222). -/
  openOk  : Bool
  /-- NONCE(p), the byte the port's next probe draws (R265). -/
  nonce   : Byte
  /-- The chunk length a read of this lane would return; the RX step brings it into 1..|stg| (R224). -/
  chunk   : Nat
  /-- How many bytes of a frame cut off now have left on TXD; at most its length (R229, R374). -/
  cut     : Nat
  deriving DecidableEq, Repr, Inhabited

/-- The parameters of this instance of the block: any that meet R3 (log entry 1). -/
opaque Config.chip : ValidParams

/-- What the environment holds at port `p` when the block is first reset: unknown (log entry 2). -/
opaque Config.pinAtPowerOn : Nat → Pin

end Sys2Proof
end

