-- ==== Sys2Proof/Machine/Operands.lean ====
section
/-!
DEFINITION. Sys2Proof/Machine/Operands.lean: how bytes make numbers and numbers make bytes (00_scope.md R14,
20_memory.md R70, R72), and the operand forms of the requests (30_encoding.md R121-R128, R110-R112).
-/

namespace Sys2Proof.Machine

/-- `s[i]`, and 0x00 past the end (the padding of R32 and R33). -/
def byteAt (s : List Byte) (i : Nat) : Byte := s.getD i 0

/-- `le16(s, i)` (R14). -/
def le16 (s : List Byte) (i : Nat) : Nat :=
  (byteAt s i).toNat + 256 * (byteAt s (i + 1)).toNat

/-- `le32(s, i)` (R14), as the 32-bit value it is. -/
def le32 (s : List Byte) (i : Nat) : Word :=
  byteAt s (i + 3) ++ byteAt s (i + 2) ++ byteAt s (i + 1) ++ byteAt s i

/-- `le64(s, i)` (R14). -/
def le64 (s : List Byte) (i : Nat) : Quad := le32 s (i + 4) ++ le32 s i

/-- `i32(s, i)`: le32 read as two's complement (R14). -/
def i32 (s : List Byte) (i : Nat) : Int := (le32 s i).toInt

/-- `bytes_le16` of a number below 65536 (R14). -/
def bytesLe16 (n : Nat) : List Byte := [BitVec.ofNat 8 n, BitVec.ofNat 8 (n / 256)]

/-- `bytes_le32(v)` (R14). -/
def bytesLe32 (v : Word) : List Byte :=
  [v.extractLsb' 0 8, v.extractLsb' 8 8, v.extractLsb' 16 8, v.extractLsb' 24 8]

/-- `bytes_le64(v)` (R14). -/
def bytesLe64 (v : Quad) : List Byte :=
  bytesLe32 (v.extractLsb' 0 32) ++ bytesLe32 (v.extractLsb' 32 32)

/-- `s[i..j)` (R12). -/
def slice (s : List Byte) (i j : Nat) : List Byte := (s.drop i).take (j - i)

/-- `Σ s`, an unbounded natural number (R12). -/
def sumBytes (s : List Byte) : Nat := (s.map BitVec.toNat).sum

/-- The host vec3 at operand offset `o`, in wire order x, z, y (R117, R306). -/
def xzy (ops : List Byte) (o : Nat) : List Byte :=
  slice ops o (o + 4) ++ slice ops (o + 8) (o + 12) ++ slice ops (o + 4) (o + 8)

/-- The SetStimulation payload of a request's operands: STIM_CODE[v], the variant data with every vec3 in wire
order, then strength and frequency (R110, R306). -/
def stimPayload (codes : StimCodes) (ops : List Byte) : List Byte :=
  match (byteAt ops 0).toNat with
  | 0 => codes.point :: (xzy ops 1 ++ slice ops 13 21)
  | 1 => codes.vibration :: (xzy ops 1 ++ xzy ops 13 ++ slice ops 25 33)
  | 2 => codes.linear :: (xzy ops 1 ++ xzy ops 13 ++ slice ops 25 33)
  | _ => codes.circular :: (xzy ops 1 ++ xzy ops 13 ++ slice ops 25 29 ++ slice ops 29 37)

/-- The `olen` SET_STIMULATION requires for a variant index (R124); none for a variant that is not one. -/
def stimOlen (v : Byte) : Option Nat :=
  match v.toNat with
  | 0 => some 21
  | 1 => some 33
  | 2 => some 33
  | 3 => some 37
  | _ => none

/-- The EnableDisable payload of a SET_ENABLE operand (R112, R310). -/
def enablePayload (ops : List Byte) : List Byte := [if byteAt ops 0 ≠ 0 then 0x01#8 else 0x00#8]

/-- The DeviceConfig fields of 21 payload bytes (R108). The block stores the bytes and never computes on the
fields; this view is the host's. -/
structure DeviceConfig where
  version           : Int
  arrayType         : Byte
  arrayEdgeSize     : Int
  transducerCount   : Int
  transducerSize    : Word
  transducerSpacing : Word
  deriving DecidableEq, Repr

/-- R108's decoding. -/
def deviceConfig (p : List Byte) : DeviceConfig :=
  { version := i32 p 0, arrayType := byteAt p 4, arrayEdgeSize := i32 p 5, transducerCount := i32 p 9,
    transducerSize := le32 p 13, transducerSpacing := le32 p 17 }

/-- The DeviceStatus fields of 37 payload bytes (R109). -/
structure DeviceStatus where
  voltageVDDA           : Word
  voltage3V3            : Word
  voltage5V0            : Word
  temperature           : Word
  refreshDeltaTime      : Quad
  loopFreq              : Word
  activeStimulationType : Byte
  calibrationMode       : Int
  phaseSetMode          : Int
  deriving DecidableEq, Repr

/-- R109's and R322's decoding. -/
def deviceStatus (p : List Byte) : DeviceStatus :=
  { voltageVDDA := le32 p 0, voltage3V3 := le32 p 4, voltage5V0 := le32 p 8, temperature := le32 p 12,
    refreshDeltaTime := le64 p 16, loopFreq := le32 p 24, activeStimulationType := byteAt p 28,
    calibrationMode := i32 p 29, phaseSetMode := i32 p 33 }

end Sys2Proof.Machine
end

