-- ==== Sys2Proof/Machine/Codec.lean ====
section
/-!
DEFINITION. Sys2Proof/Machine/Codec.lean: the checksum validator and the framer (41_framecodec.md R180-R182),
and the strict reading of one whole frame (the Decode of R197). They are pure functions.
-/

namespace Sys2Proof.Machine

/-- `csum(c, P) = (c + |P| + Σ P) mod 256` (R103, R180). -/
def csum (c : Byte) (payload : List Byte) : Byte :=
  BitVec.ofNat 8 (c.toNat + payload.length + sumBytes payload)

/-- The bytes of a frame, header to tail (R100). -/
def frameBytes (c : Byte) (payload : List Byte) : List Byte :=
  [0xAA#8, 0x55#8, c, BitVec.ofNat 8 payload.length] ++ payload ++ [csum c payload, 0x0D#8, 0x0A#8]

/-- `Encode(c, P)`; `none` is REFUSED (R181, R182). -/
def encodeFrame (c : Byte) (payload : List Byte) : Option (List Byte) :=
  if payload.length > 255 then none else some (frameBytes c payload)

end Sys2Proof.Machine
end

