-- ==== Sys2Proof/Syntax.lean ====
section
/-!
DEFINITION. Sys2Proof/Syntax.lean: the instructions of spec/opcode_table.json, one constructor a row, and the
inputs that the environment gives the block, one at a time. The block has no stored program (R81): its
instructions are the request descriptors, the register accesses, the wire frames and the internal operations
of the table (INDEX.md).
-/

namespace Sys2Proof

/-- `lane[p].role` (10_state.md R23). -/
inductive Role where
  | closed
  | probe
  | active
  deriving DecidableEq, Repr

/-- Who handed a frame to a TX engine (R227). -/
inductive Owner where
  | request
  | probe
  deriving DecidableEq, Repr

/-- The reason byte of DISCONNECTED (30_encoding.md R133). -/
inductive Reason where
  | requested
  | ioFail
  | writeTimeout
  | openFail
  | noDevice
  | reconnect
  deriving DecidableEq, Repr

/-- A frame record, `Frame(code, payload, raw)` (41_framecodec.md R191). -/
structure Frame where
  code    : Byte
  payload : List Byte
  raw     : List Byte
  deriving DecidableEq, Repr

/-- A request descriptor (R120). Its `olen` is the number of its operand bytes. -/
structure Descriptor where
  opcode : Byte
  ops    : List Byte
  deriving DecidableEq, Repr

/-- The four steps of the request engine (44_protocol.md R300). -/
inductive EngineStep where
  | take (d : Descriptor)
  | sendComplete
  | scanComplete
  | retire
  deriving DecidableEq, Repr

/-- One constructor for each row of spec/opcode_table.json, in the table's order. A request carries its operand
bytes as the descriptor gives them: a wrong count is no decoding failure but the request's BAD_REQUEST (R120).
A row of RESERVED_REQ carries the opcode bits that the row's mask leaves free. -/
inductive Instr where
  -- request descriptors, R121-R129
  | manualConnect (ops : List Byte)
  | reconnect (ops : List Byte)
  | scan (ops : List Byte)
  | disconnect (ops : List Byte)
  | getConfig (ops : List Byte)
  | getStatus (ops : List Byte)
  | setStimulation (ops : List Byte)
  | setPhases (ops : List Byte)
  | setEnable (ops : List Byte)
  | reservedReq00 (ops : List Byte)
  | reservedReq0A (low : BitVec 1) (ops : List Byte)
  | reservedReq0C (low : BitVec 2) (ops : List Byte)
  | reservedReq10 (low : BitVec 4) (ops : List Byte)
  | reservedReq20 (low : BitVec 5) (ops : List Byte)
  | reservedReq40 (low : BitVec 6) (ops : List Byte)
  | reservedReq80 (low : BitVec 7) (ops : List Byte)
  -- register bus, R142-R145
  | regRead (off : Byte)
  | regWrite (off : Byte) (v : Word)
  -- wire frames on TXD[p], R104
  | frameEnableDisable (p : Nat) (payload : List Byte)
  | framePing (p : Nat) (payload : List Byte)
  | frameGetConfig (p : Nat) (payload : List Byte)
  | frameGetStatus (p : Nat) (payload : List Byte)
  | frameSetStimulation (p : Nat) (payload : List Byte)
  | frameSetPhases (p : Nat) (payload : List Byte)
  -- wire frames on RXD[p], R105, R106
  | frameAck (p : Nat) (payload : List Byte)
  | frameNack (p : Nat) (payload : List Byte)
  | framePingAck (p : Nat) (payload : List Byte)
  | frameReturnConfig (p : Nat) (payload : List Byte)
  | frameReturnStatus (p : Nat) (payload : List Byte)
  | frameSack (p : Nat) (payload : List Byte)
  | frameError (p : Nat) (payload : List Byte)
  | frameOther (p : Nat) (code : Byte) (payload : List Byte)
  -- ring buffer, R151-R156
  | rbWrite (p : Nat) (data : List Byte)
  | rbPeek (p : Nat) (n : Nat)
  | rbPeekByte (p : Nat) (i : Nat)
  | rbRead (p : Nat) (n : Nat)
  | rbSkip (p : Nat) (n : Nat)
  | rbClear (p : Nat)
  -- frame codec, R180-R184
  | csum (c : Byte) (payload : List Byte)
  | encodeFrame (c : Byte) (payload : List Byte)
  | parseAll (p : Nat)
  -- serial lanes, R222-R233
  | openLane (p : Nat) (role : Role) (baud : Word)
  | arrive (p : Nat) (b : Byte)
  | rxStep (p : Nat)
  | transmit (p : Nat) (bytes : List Byte) (owner : Owner)
  | txDone (p : Nat)
  | writeTimeout (p : Nat)
  | stopLane (p : Nat)
  | portFault (p : Nat)
  | sendFrame (p : Nat) (c : Byte) (payload : List Byte) (owner : Owner)
  -- scan controller, R264-R276
  | startScan
  | probeOpen (p : Nat)
  | probeTimer (p : Nat)
  | probeFrame (p : Nat) (f : Frame)
  | arbitrate (p : Nat)
  | scanEnd
  | teardownActive (reason : Reason)
  -- request engine and protocol handler, R300-R326
  | execute (d : Descriptor)
  | protocolSend (c : Byte) (payload : List Byte)
  | inbound (f : Frame)
  | requestEngineSteps (k : EngineStep)
  -- reset, R370
  | reset
  deriving DecidableEq, Repr

/-- The steps of the environment that are no row of the opcode table: the host takes an event (R7, R226),
time moves forward (R10), the platform changes a port's inputs (R9). -/
inductive EnvStep where
  /-- `HOST TAKES` the head event of the control outbox. -/
  | hostTakesCtl
  /-- `HOST TAKES` the head event of lane `p`'s RX engine: RxDeliver(p). -/
  | hostTakesLane (p : Nat)
  /-- `ADVANCE t`. -/
  | advance (dt : Nat)
  /-- New values at port `p`'s inputs. -/
  | setPin (p : Nat) (pin : Pin)
  deriving DecidableEq, Repr

/-- What can happen next at the block's boundary, one atomic step of one agent (R5, R75), or the arrival of
bytes followed by one RX step (the line `RX p: …` of R147). The internal operations that only run inside such
a step (a ring-buffer operation, StopLane, Execute …) are no input: the host cannot issue them (R146). -/
inductive Input where
  /-- The host offers these bytes at the request port (R6). -/
  | request (desc : List Byte)
  /-- One register bus access (R8, R142); a read ignores `v`. -/
  | bus (write : Bool) (off : Byte) (v : Word)
  /-- These bytes arrive on RXD[p], and lane `p` takes an RX step (R147). -/
  | rx (p : Nat) (bytes : List Byte)
  | arrive (p : Nat) (b : Byte)
  | rxStep (p : Nat)
  | txDone (p : Nat)
  | writeTimeout (p : Nat)
  | portFault (p : Nat)
  | probeOpen (p : Nat)
  | probeTimer (p : Nat)
  | scanEnd
  | sendComplete
  | scanComplete
  | retire
  | reset
  | env (e : EnvStep)
  deriving DecidableEq, Repr

end Sys2Proof
end

