-- ==== Sys2Proof/WellFormed.lean ====
section
/-!
DEFINITION. Sys2Proof/WellFormed.lean: which instruction terms an encoding or a caller can produce. A request's
`olen` that does not match its opcode is NOT ill-formed here: it is the request's BAD_REQUEST (R120).
-/

namespace Sys2Proof

/-- A frame record as the parser makes it (R191). -/
abbrev Frame.wf (f : Frame) : Prop :=
  f.payload.length ≤ 255 ∧ f.raw = Machine.frameBytes f.code f.payload

/-- A descriptor's `olen` has 16 bits (R120). -/
abbrev Descriptor.wf (d : Descriptor) : Prop := d.ops.length ≤ 65535

/-- The payload schemas of the six command frames (R110-R114). -/
def enablePayloadOk (p : List Byte) : Bool := p == [0x00#8] || p == [0x01#8]
def pingPayloadOk (p : List Byte) : Bool := p.length == 1
def emptyPayloadOk (p : List Byte) : Bool := p.length == 0
def phasesPayloadOk (p : List Byte) : Bool := p.length % 4 == 0 && p.length ≤ 252

/-- R110: the type byte is one of STIM_CODE, and the length is that variant's. -/
def stimPayloadOk (c : StimCodes) (p : List Byte) : Bool :=
  match p with
  | [] => false
  | t :: _ =>
    (t == c.point && p.length == 21) || (t == c.vibration && p.length == 33) ||
    (t == c.linear && p.length == 33) || (t == c.circular && p.length == 37)

/-- The well-formed instructions of an instance with parameters `pr`. -/
def Instr.wf (pr : Params) : Instr → Bool
  | .manualConnect ops | .reconnect ops | .scan ops | .disconnect ops | .getConfig ops | .getStatus ops
  | .setStimulation ops | .setPhases ops | .setEnable ops | .reservedReq00 ops | .reservedReq0A _ ops
  | .reservedReq0C _ ops | .reservedReq10 _ ops | .reservedReq20 _ ops | .reservedReq40 _ ops
  | .reservedReq80 _ ops => decide (ops.length ≤ 65535)
  | .regRead _ | .regWrite _ _ => true
  | .frameEnableDisable p pl => decide (p < pr.nPorts) && enablePayloadOk pl
  | .framePing p pl => decide (p < pr.nPorts) && pingPayloadOk pl
  | .frameGetConfig p pl | .frameGetStatus p pl => decide (p < pr.nPorts) && emptyPayloadOk pl
  | .frameSetStimulation p pl => decide (p < pr.nPorts) && stimPayloadOk pr.stimCode pl
  | .frameSetPhases p pl => decide (p < pr.nPorts) && phasesPayloadOk pl
  | .frameAck p pl | .frameNack p pl | .framePingAck p pl | .frameReturnConfig p pl | .frameReturnStatus p pl
  | .frameSack p pl | .frameError p pl => decide (p < pr.nPorts) && decide (pl.length ≤ 255)
  | .frameOther p c pl => decide (p < pr.nPorts) && decide (pl.length ≤ 255) && !pr.code.responses.contains c
  | .rbWrite p _ | .rbPeek p _ | .rbPeekByte p _ | .rbRead p _ | .rbSkip p _ | .rbClear p
  | .parseAll p | .arrive p _ | .rxStep p | .transmit p _ _ | .txDone p | .writeTimeout p | .stopLane p
  | .portFault p | .sendFrame p _ _ _ | .probeOpen p | .probeTimer p | .arbitrate p => decide (p < pr.nPorts)
  | .csum _ pl => decide (pl.length ≤ 255)
  | .encodeFrame _ _ => true
  | .openLane p role _ => decide (p < pr.nPorts) && decide (role ≠ .closed)
  | .startScan | .scanEnd | .teardownActive _ | .protocolSend _ _ | .reset => true
  | .probeFrame p f => decide (p < pr.nPorts) && decide f.wf
  | .inbound f => decide f.wf
  | .execute d => decide d.wf
  | .requestEngineSteps (.take d) => decide d.wf
  | .requestEngineSteps .sendComplete | .requestEngineSteps .scanComplete | .requestEngineSteps .retire => true

end Sys2Proof
end

