-- ==== Sys2Proof/Decode.lean ====
section
/-!
DEFINITION. Sys2Proof/Decode.lean: from what stands at an interface to the instruction it is (30_encoding.md),
and back. Three interfaces carry bytes: the request port (R120-R129), a receive line and a transmit line (R100-R106).
The register bus carries an access kind, an offset and a word (R142). The internal operations have no encoding
(R146); the agents' own steps are inputs by name.
-/

namespace Sys2Proof

open Machine

/-- Why bytes are no instruction at the interface they stand at. -/
inductive DecodeError where
  /-- Fewer bytes than the shortest descriptor (3) or frame (7). -/
  | truncated
  /-- A descriptor whose number of operand bytes is not its olen (R120). -/
  | badOlen
  /-- Bytes 0-1 are not 0xAA 0x55 (R100). -/
  | badHeader
  /-- The number of bytes is not 7 + Len (R101). -/
  | badLength
  /-- The last two bytes are not 0x0D 0x0A (R100). -/
  | badTail
  /-- The checksum byte is not the sum (R103). -/
  | badChecksum
  /-- A frame on a transmit line whose code is no command code (R106). -/
  | notACommand
  /-- A command frame whose payload is not its schema's (R110-R114). -/
  | badPayload
  deriving DecidableEq, Repr

/-! ### Request descriptors -/

/-- The rows of format REQ by opcode byte: `match` and `mask` of spec/opcode_table.json (R121-R129). -/
def requestInstr (op : Byte) (ops : List Byte) : Instr :=
  if op = 0x01#8 then .manualConnect ops
  else if op = 0x02#8 then .reconnect ops
  else if op = 0x03#8 then .scan ops
  else if op = 0x04#8 then .disconnect ops
  else if op = 0x05#8 then .getConfig ops
  else if op = 0x06#8 then .getStatus ops
  else if op = 0x07#8 then .setStimulation ops
  else if op = 0x08#8 then .setPhases ops
  else if op = 0x09#8 then .setEnable ops
  else if op = 0x00#8 then .reservedReq00 ops
  else if op &&& 0xFE#8 = 0x0A#8 then .reservedReq0A (op.extractLsb' 0 1) ops
  else if op &&& 0xFC#8 = 0x0C#8 then .reservedReq0C (op.extractLsb' 0 2) ops
  else if op &&& 0xF0#8 = 0x10#8 then .reservedReq10 (op.extractLsb' 0 4) ops
  else if op &&& 0xE0#8 = 0x20#8 then .reservedReq20 (op.extractLsb' 0 5) ops
  else if op &&& 0xC0#8 = 0x40#8 then .reservedReq40 (op.extractLsb' 0 6) ops
  else .reservedReq80 (op.extractLsb' 0 7) ops

/-- A descriptor `opcode:1 | olen:2 | operands:olen` (R120). A descriptor crosses the request port whole (R6),
so bytes left over are an error, not a second descriptor. -/
def decodeRequest : List Byte → Except DecodeError Instr
  | op :: l0 :: l1 :: ops =>
    if ops.length = le16 [l0, l1] 0 then .ok (requestInstr op ops) else .error .badOlen
  | _ => .error .truncated

/-! ### Wire frames -/

/-- The code and payload of the bytes of exactly one valid frame (R100, R197). -/
def decodeFrame (b : List Byte) : Except DecodeError (Byte × List Byte) :=
  if b.length < 7 then .error .truncated
  else if byteAt b 0 ≠ 0xAA#8 ∨ byteAt b 1 ≠ 0x55#8 then .error .badHeader
  else
    let len := (byteAt b 3).toNat
    if b.length ≠ 7 + len then .error .badLength
    else if byteAt b (5 + len) ≠ 0x0D#8 ∨ byteAt b (6 + len) ≠ 0x0A#8 then .error .badTail
    else
      let c := byteAt b 2
      let payload := slice b 4 (4 + len)
      if byteAt b (4 + len) ≠ csum c payload then .error .badChecksum else .ok (c, payload)

/-- The row a received frame is, by its code (R105, R106). -/
def rxFrameInstr (codes : Codes) (p : Nat) (c : Byte) (payload : List Byte) : Instr :=
  if c = codes.ack then .frameAck p payload
  else if c = codes.nack then .frameNack p payload
  else if c = codes.pingAck then .framePingAck p payload
  else if c = codes.returnConfig then .frameReturnConfig p payload
  else if c = codes.returnStatus then .frameReturnStatus p payload
  else if c = codes.sack then .frameSack p payload
  else if c = codes.error then .frameError p payload
  else .frameOther p c payload

/-- A whole frame on the receive line of port `p`. -/
def decodeRx (pr : Params) (p : Nat) (b : List Byte) : Except DecodeError Instr :=
  match decodeFrame b with
  | .ok (c, payload) => .ok (rxFrameInstr pr.code p c payload)
  | .error e => .error e

/-- The row a transmitted frame is, by its code (R104), when its payload is that row's schema. -/
def txFrameInstr (pr : Params) (p : Nat) (c : Byte) (payload : List Byte) : Except DecodeError Instr :=
  if c = pr.code.enableDisable then
    if enablePayloadOk payload then .ok (.frameEnableDisable p payload) else .error .badPayload
  else if c = pr.code.ping then
    if pingPayloadOk payload then .ok (.framePing p payload) else .error .badPayload
  else if c = pr.code.getConfig then
    if emptyPayloadOk payload then .ok (.frameGetConfig p payload) else .error .badPayload
  else if c = pr.code.getStatus then
    if emptyPayloadOk payload then .ok (.frameGetStatus p payload) else .error .badPayload
  else if c = pr.code.setStimulation then
    if stimPayloadOk pr.stimCode payload then .ok (.frameSetStimulation p payload) else .error .badPayload
  else if c = pr.code.setPhases then
    if phasesPayloadOk payload then .ok (.frameSetPhases p payload) else .error .badPayload
  else .error .notACommand

/-- A whole frame on the transmit line of port `p`. -/
def decodeTx (pr : Params) (p : Nat) (b : List Byte) : Except DecodeError Instr :=
  match decodeFrame b with
  | .ok (c, payload) => txFrameInstr pr p c payload
  | .error e => .error e

/-! ### The next input -/

/-- What an input is: an instruction, bytes on a line that are not one whole frame (they still arrive, R223),
a step of the environment that is no row, or a rejection. -/
inductive Decoded where
  | instr (i : Instr)
  | noise (p : Nat) (bytes : List Byte)
  | env (e : EnvStep)
  | reject (e : DecodeError)
  deriving DecidableEq, Repr

/-- The decoder: total on every input. -/
def decodeInput (pr : Params) : Input → Decoded
  | .request d =>
    match decodeRequest d with
    | .ok i => .instr i
    | .error e => .reject e
  | .bus false off _ => .instr (.regRead off)
  | .bus true off v => .instr (.regWrite off v)
  | .rx p b =>
    match decodeRx pr p b with
    | .ok i => .instr i
    | .error _ => .noise p b
  | .arrive p b => .instr (.arrive p b)
  | .rxStep p => .instr (.rxStep p)
  | .txDone p => .instr (.txDone p)
  | .writeTimeout p => .instr (.writeTimeout p)
  | .portFault p => .instr (.portFault p)
  | .probeOpen p => .instr (.probeOpen p)
  | .probeTimer p => .instr (.probeTimer p)
  | .scanEnd => .instr .scanEnd
  | .sendComplete => .instr (.requestEngineSteps .sendComplete)
  | .scanComplete => .instr (.requestEngineSteps .scanComplete)
  | .retire => .instr (.requestEngineSteps .retire)
  | .reset => .instr .reset
  | .env e => .env e

/-! ### Encoding -/

/-- The bytes of a descriptor (R120). -/
def descriptorBytes (op : Byte) (ops : List Byte) : List Byte := op :: (bytesLe16 ops.length ++ ops)

/-- The opcode and operands of a request row. -/
def requestParts : Instr → Option (Byte × List Byte)
  | .manualConnect ops => some (0x01#8, ops)
  | .reconnect ops => some (0x02#8, ops)
  | .scan ops => some (0x03#8, ops)
  | .disconnect ops => some (0x04#8, ops)
  | .getConfig ops => some (0x05#8, ops)
  | .getStatus ops => some (0x06#8, ops)
  | .setStimulation ops => some (0x07#8, ops)
  | .setPhases ops => some (0x08#8, ops)
  | .setEnable ops => some (0x09#8, ops)
  | .reservedReq00 ops => some (0x00#8, ops)
  | .reservedReq0A low ops => some (0x0A#8 ||| low.setWidth 8, ops)
  | .reservedReq0C low ops => some (0x0C#8 ||| low.setWidth 8, ops)
  | .reservedReq10 low ops => some (0x10#8 ||| low.setWidth 8, ops)
  | .reservedReq20 low ops => some (0x20#8 ||| low.setWidth 8, ops)
  | .reservedReq40 low ops => some (0x40#8 ||| low.setWidth 8, ops)
  | .reservedReq80 low ops => some (0x80#8 ||| low.setWidth 8, ops)
  | _ => none

/-- The port, code and payload of a row on a receive line (R105, R106). -/
def rxParts (c : Codes) : Instr → Option (Nat × Byte × List Byte)
  | .frameAck p pl => some (p, c.ack, pl)
  | .frameNack p pl => some (p, c.nack, pl)
  | .framePingAck p pl => some (p, c.pingAck, pl)
  | .frameReturnConfig p pl => some (p, c.returnConfig, pl)
  | .frameReturnStatus p pl => some (p, c.returnStatus, pl)
  | .frameSack p pl => some (p, c.sack, pl)
  | .frameError p pl => some (p, c.error, pl)
  | .frameOther p code pl => some (p, code, pl)
  | _ => none

/-- The port, code and payload of a row on a transmit line (R104). -/
def txParts (c : Codes) : Instr → Option (Nat × Byte × List Byte)
  | .frameEnableDisable p pl => some (p, c.enableDisable, pl)
  | .framePing p pl => some (p, c.ping, pl)
  | .frameGetConfig p pl => some (p, c.getConfig, pl)
  | .frameGetStatus p pl => some (p, c.getStatus, pl)
  | .frameSetStimulation p pl => some (p, c.setStimulation, pl)
  | .frameSetPhases p pl => some (p, c.setPhases, pl)
  | _ => none

/-- The rows that are an agent's own step, as the input that names them. -/
def agentInput : Instr → Option Input
  | .arrive p b => some (.arrive p b)
  | .rxStep p => some (.rxStep p)
  | .txDone p => some (.txDone p)
  | .writeTimeout p => some (.writeTimeout p)
  | .portFault p => some (.portFault p)
  | .probeOpen p => some (.probeOpen p)
  | .probeTimer p => some (.probeTimer p)
  | .scanEnd => some .scanEnd
  | .requestEngineSteps .sendComplete => some .sendComplete
  | .requestEngineSteps .scanComplete => some .scanComplete
  | .requestEngineSteps .retire => some .retire
  | .reset => some .reset
  | _ => none

/-- The input that is this instruction; none for a row that no input is (an internal operation, R146, or a frame
that the block itself sends, whose bytes `encodeTx` gives). -/
def encode (pr : Params) (i : Instr) : Option Input :=
  match i with
  | .regRead off => some (.bus false off 0)
  | .regWrite off v => some (.bus true off v)
  | i =>
    match requestParts i with
    | some (op, ops) => some (.request (descriptorBytes op ops))
    | none =>
      match rxParts pr.code i with
      | some (p, c, pl) => some (.rx p (frameBytes c pl))
      | none => agentInput i

/-- The bytes that a command frame puts on its transmit line (R104). -/
def encodeTx (pr : Params) (i : Instr) : Option (Nat × List Byte) :=
  match txParts pr.code i with
  | some (p, c, pl) => some (p, frameBytes c pl)
  | none => none

/-! ### The opcode table's words -/

/-- Byte `k` of a table word of `nbits` bits; 0x00 above them. -/
def tableByte (nbits w k : Nat) : Byte :=
  if 8 * k < nbits then BitVec.ofNat 8 (w / 2 ^ (8 * k)) else 0

/-- The descriptor a table word is: byte 0 the opcode, bytes 1-2 olen, then olen operand bytes, every byte the
table gives no bits being 0x00. Only the rows of format REQ give bits. -/
def tableDescriptor (nbits w : Nat) : List Byte :=
  let hd := [tableByte nbits w 0, tableByte nbits w 1, tableByte nbits w 2]
  hd ++ (List.range (le16 hd 1)).map (fun i => tableByte nbits w (3 + i))

/-- The instruction the decoder reads from a row of spec/opcode_table.json. -/
def decodeTableWord (nbits w : Nat) : Option Instr :=
  match decodeRequest (tableDescriptor nbits w) with
  | .ok i => some i
  | .error _ => none

end Sys2Proof
end

