-- ==== Sys2Proof/Machine/State.lean ====
section
/-!
DEFINITION. Sys2Proof/Machine/State.lean: every piece of state that 10_state.md gives the block (R22-R48), as
plain data, with what the environment holds at the block's boundary, and the state right after reset (R47, R370).
-/

namespace Sys2Proof.Machine

/-! ### Results and events -/

/-- The result codes of REQ_DONE (30_encoding.md R130). -/
inductive Result where
  | ok
  | notConnected
  | badState
  | phaseCap
  | badRequest
  | sendFail
  | openFail
  | noDevice
  | badOpcode
  deriving DecidableEq, Repr

/-- The kind byte of ACK_RECEIVED (R139). -/
inductive AckKind where
  | ack
  | nack
  | sack
  deriving DecidableEq, Repr

/-- The event records (R131-R141); `Event.record` gives their bytes. -/
inductive Event where
  | connected (p : Nat)
  | disconnected (reason : Reason)
  | configReceived (cfg : List Byte)
  | statusReceived (sts : List Byte)
  | stimulationSent (ops : List Byte)
  | errorReceived (e : Byte)
  | frameReceived (raw : List Byte)
  | ackReceived (k : AckKind)
  | decodeFailed (code : Byte) (len : Byte)
  | reqDone (opcode : Byte) (r : Result)
  deriving DecidableEq, Repr

/-! ### Lanes -/

/-- Ring-buffer storage: the bytes that differ from what an unwritten one reads as, by rising address. -/
abbrev Memory := List Host.Cell

/-- A ring buffer (R40): storage, read cursor, write cursor, occupied count. -/
structure RingBuf where
  mem   : Memory
  r     : Nat
  w     : Nat
  count : Nat
  deriving DecidableEq, Repr

/-- One entry of a TX queue: frame bytes and owner (R23). -/
structure TxItem where
  bytes : List Byte
  owner : Owner
  deriving DecidableEq, Repr

/-- RX engine state (R23, R226). -/
inductive RxState where
  | stopped
  | idle
  | delivering (evs : List Event)
  deriving DecidableEq, Repr

/-- One serial lane (R23). -/
structure Lane where
  role    : Role
  /-- Baud latched when the lane opened. -/
  baud    : Word
  /-- READ_TO latched when the lane opened; it has no observable effect (R225). -/
  readTo  : Word
  /-- WRITE_TO latched when the lane opened. -/
  writeTo : Word
  rb      : RingBuf
  /-- The staging FIFO (R42). -/
  stg     : List Byte
  rx      : RxState
  txq     : List TxItem
  /-- `tx_start[p]`: when the head frame's transmission started. -/
  txStart : Nat
  /-- Timer WT[p] is running (R346): the head frame is being transmitted. -/
  wt      : Bool
  /-- The model's own: the bytes that have left on TXD[p] so far. -/
  txd     : List Byte
  deriving DecidableEq, Repr

/-! ### Connection, scan controller, request engine -/

/-- The connection state (R22). -/
inductive Conn where
  | disconnected
  | scanning
  | connected
  deriving DecidableEq, Repr

/-- `probe[p].st` (R43). -/
inductive ProbeSt where
  | idle
  | opening
  | pinging
  | waiting
  | ok
  | fail
  deriving DecidableEq, Repr

/-- One probe (R43), with its timer PT[p]: `some t0` while it runs, `t0` its start (R266, R346). -/
structure Probe where
  st    : ProbeSt
  nonce : Byte
  timer : Option Nat
  deriving DecidableEq, Repr

/-- `scan.result` (R43); `unset` is NONE. -/
inductive ScanResult where
  | unset
  | ok
  | noDevice
  deriving DecidableEq, Repr

/-- The scan controller (R43). -/
structure Scan where
  active  : Bool
  baud    : Word
  probeTo : Word
  winner  : Option Nat
  tWin    : Nat
  result  : ScanResult
  deriving DecidableEq, Repr

/-- `req.phase` (R44). -/
inductive Phase where
  | idle
  | validate
  | send
  | scan
  | done
  deriving DecidableEq, Repr

/-- `req.send` (R44); `unset` is NONE. -/
inductive SendSt where
  | unset
  | pending
  | ok
  | fail
  deriving DecidableEq, Repr

/-- The request engine (R44). -/
structure Req where
  busy  : Bool
  cur   : Descriptor
  phase : Phase
  send  : SendSt
  deriving DecidableEq, Repr

/-! ### Registers -/

/-- The host-visible registers that are stored (R24-R34). STATE, RB_CAP, RB_COUNT and NPORTS are computed. -/
structure Regs where
  baud         : Word
  readTo       : Word
  writeTo      : Word
  probeTo      : Word
  scanEligible : Word
  scanHits     : Word
  /-- LAST_CONFIG, 21 bytes (R32). -/
  lastConfig   : List Byte
  /-- LAST_STATUS, 37 bytes (R33). -/
  lastStatus   : List Byte
  cfgValid     : Bool
  stsValid     : Bool
  deriving DecidableEq, Repr

/-- The DIAG counters (R35-R39, R41). -/
structure Diag where
  framesOk  : Word
  hdrSlip   : Word
  tailFail  : Word
  csumFail  : Word
  ovfClear  : Word
  rxOverrun : Word
  deriving DecidableEq, Repr

/-- What SendFrame answers (R233). -/
inductive SendResult where
  | queued
  | fail
  deriving DecidableEq, Repr

/-- The model's own: what the last instruction returned to its caller (the word of a register read, the bytes of
a Peek, the Boolean of OpenLane …). `waits` says that the step was not enabled and nothing happened. -/
inductive Ret where
  | unit
  | waits
  | bool (b : Bool)
  | byte (b : Byte)
  | bytes (bs : List Byte)
  | word (w : Word)
  | frames (fs : List Frame)
  | events (es : List Event)
  | send (r : SendResult)
  | encodeRefused
  deriving DecidableEq, Repr

/-- The state of the block, with its environment's side of the boundary (the last five fields). -/
structure State where
  /-- The parameters of this instance (R3); no step changes them. -/
  params    : Params
  /-- R22. -/
  conn      : Conn
  /-- R22: the active lane, or `noPort`. -/
  active    : Nat
  /-- R23, one entry a port. -/
  lanes     : List Lane
  /-- R43, one entry a port. -/
  probes    : List Probe
  /-- R43. -/
  scan      : Scan
  /-- R44. -/
  req       : Req
  /-- R48: the control outbox, oldest event first. -/
  ctlOut    : List Event
  /-- R24-R34. -/
  regs      : Regs
  /-- R35-R41. -/
  diag      : Diag
  /-- R10: time in microseconds; it belongs to the environment. -/
  now       : Nat
  /-- What the environment does next, first entry first. -/
  inputs    : List Input
  /-- R9, R15: what stands at each port's inputs. -/
  pins      : List Pin
  /-- The events the host has taken, in the order it took them (R78). -/
  delivered : List Event
  /-- What the last instruction returned. -/
  ret       : Ret
  deriving DecidableEq, Repr

/-- The block has no fault: "no step of the block itself faults" (00_scope.md R16), and "The block has no traps"
(60_exceptions.md R343). Every failure is a result code or an event. The type is empty, so nothing raises it. -/
inductive Fault where
  deriving DecidableEq, Repr

/-- Why a step has no meaning. -/
inductive Refusal where
  /-- Raised by an arm of `exec` whose instruction has no meaning yet. Safe: the machine stops. -/
  | notModelled (mnemonic : String)
  /-- Raised by `step` when the bytes offered at the request port are no descriptor of R120 (fewer than three, or not
  3 + olen). A descriptor is transferred whole (R6), so no host offers such bytes. Safe: the machine stops. -/
  | notADescriptor (e : DecodeError)
  deriving DecidableEq, Repr

/-- What an instruction answers. -/
abbrev Out := Host.Outcome State Fault Refusal

/-! ### Reset values -/

/-- "no port", the value of `active` when not connected (R22; 92 D3). -/
def noPort : Nat := 0xFF

/-- An empty ring buffer (R40). -/
def RingBuf.empty : RingBuf := { mem := [], r := 0, w := 0, count := 0 }

/-- A lane after reset (R23). -/
def Lane.reset : Lane :=
  { role := .closed, baud := 0, readTo := 0, writeTo := 0, rb := RingBuf.empty, stg := [], rx := .stopped,
    txq := [], txStart := 0, wt := false, txd := [] }

/-- A probe after reset (R43). -/
def Probe.reset : Probe := { st := .idle, nonce := 0, timer := none }

/-- The scan controller after reset (R43). `baud` and `probeTo` have no reset value in the spec (log entry 6). -/
def Scan.reset : Scan :=
  { active := false, baud := 0, probeTo := 0, winner := none, tWin := 0, result := .unset }

/-- The request engine after reset (R44). `cur` has no reset value in the spec (log entry 6). -/
def Req.reset : Req := { busy := false, cur := ⟨0, []⟩, phase := .idle, send := .unset }

/-- The stored registers after reset (R24-R34, R47). -/
def Regs.reset : Regs :=
  { baud := 115200, readTo := 100000, writeTo := 500000, probeTo := 200000, scanEligible := 0, scanHits := 0,
    lastConfig := List.replicate 21 0, lastStatus := List.replicate 37 0, cfgValid := false, stsValid := false }

/-- The counters after reset (R35-R41). -/
def Diag.reset : Diag :=
  { framesOk := 0, hdrSlip := 0, tailFail := 0, csumFail := 0, ovfClear := 0, rxOverrun := 0 }

/-- The state after reset of an instance with parameters `pr` and the port inputs `pins` (R47). -/
def State.resetOf (pr : Params) (pins : List Pin) : State :=
  { params := pr, conn := .disconnected, active := noPort, lanes := List.replicate pr.nPorts Lane.reset,
    probes := List.replicate pr.nPorts Probe.reset, scan := Scan.reset, req := Req.reset, ctlOut := [],
    regs := Regs.reset, diag := Diag.reset, now := 0, inputs := [], pins := pins, delivered := [], ret := .unit }

/-- The machine right after reset: this instance's parameters, the inputs its environment holds, nothing to do. -/
def State.reset : State :=
  State.resetOf Config.chip.val ((List.range Config.chip.val.nPorts).map Config.pinAtPowerOn)

end Sys2Proof.Machine
end

