-- ==== Sys2Proof/Machine/Flags.lean ====
section
/-!
DEFINITION. Sys2Proof/Machine/Flags.lean: the block's status flags and counters. It has no arithmetic condition
codes (10_state.md R46): its flags are the fields of STATE (R24), the valid bits (R34), and the DIAG counters
(R35-R41), each a wrapping 32-bit count.
-/

namespace Sys2Proof.Machine

/-- The encoding of the connection state in STATE.CONN (R22). -/
def Conn.code : Conn → BitVec 2
  | .disconnected => 0
  | .scanning => 1
  | .connected => 2

/-- The word STATE reads as (R24): CONN in [1:0], ACTIVE_PORT in [15:8], CFG_VALID in [16], STS_VALID in [17],
REQ_BUSY in [18], 0 elsewhere. -/
def stateWord (s : State) : Word :=
  0#13 ++ BitVec.ofBool s.req.busy ++ BitVec.ofBool s.regs.stsValid ++ BitVec.ofBool s.regs.cfgValid ++
  BitVec.ofNat 8 s.active ++ 0#6 ++ s.conn.code

/-- A successful ReturnConfig decode (R34, R321). -/
def Regs.withConfig (cfg : List Byte) (g : Regs) : Regs := { g with lastConfig := cfg, cfgValid := true }

/-- A successful ReturnStatus decode (R34, R322). -/
def Regs.withStatus (sts : List Byte) (g : Regs) : Regs := { g with lastStatus := sts, stsValid := true }

/-- A new connection clears both valid bits and no byte (R34; 92 D44). -/
def Regs.invalidate (g : Regs) : Regs := { g with cfgValid := false, stsValid := false }

/-- One more frame emitted (R35). -/
def Diag.addFrameOk (d : Diag) : Diag := { d with framesOk := d.framesOk + 1 }

/-- One more byte discarded on the header check (R36). -/
def Diag.addHdrSlip (d : Diag) : Diag := { d with hdrSlip := d.hdrSlip + 1 }

/-- One more byte discarded on the tail check (R37). -/
def Diag.addTailFail (d : Diag) : Diag := { d with tailFail := d.tailFail + 1 }

/-- One more byte discarded on the checksum check (R38). -/
def Diag.addCsumFail (d : Diag) : Diag := { d with csumFail := d.csumFail + 1 }

/-- One more clearing Write (R39). -/
def Diag.addOvfClear (d : Diag) : Diag := { d with ovfClear := d.ovfClear + 1 }

/-- One more received byte dropped (R41). -/
def Diag.addRxOverrun (d : Diag) : Diag := { d with rxOverrun := d.rxOverrun + 1 }

end Sys2Proof.Machine
end

