-- ==== Sys2Proof/Machine/Memory.lean ====
section
/-!
DEFINITION. Sys2Proof/Machine/Memory.lean: ring-buffer storage as a canonical list of cells (10_state.md R40). The
block has no other memory: its one address space is the register map (20_memory.md R76).
-/

namespace Sys2Proof.Machine

/-- What a storage byte that nothing has written reads as. DESIGN CHOICE (log entry 4): R40 leaves it unspecified
and says that no operation observes it. -/
def memUnwritten : Byte := 0x00#8

/-- The canonical form: addresses strictly rising, no entry equal to what an unlisted address reads as. -/
abbrev Memory.wf (m : Memory) : Prop :=
  m.Pairwise (fun c d => c.1 < d.1) ∧ ∀ c ∈ m, c.2 ≠ memUnwritten

/-- The byte at address `a`. -/
def Memory.read : Memory → Nat → Byte
  | [], _ => memUnwritten
  | (x, b) :: m, a => if x = a then b else Memory.read m a

/-- `mem[a] <- b`, keeping the canonical form. -/
def Memory.write : Memory → Nat → Byte → Memory
  | [], a, b => if b = memUnwritten then [] else [(a, b)]
  | (x, y) :: m, a, b =>
    if a < x then (if b = memUnwritten then (x, y) :: m else (a, b) :: (x, y) :: m)
    else if a = x then (if b = memUnwritten then m else (a, b) :: m)
    else (x, y) :: Memory.write m a b

end Sys2Proof.Machine
end

