-- ==== Sys2Proof/Machine/Ops.lean ====
section
/-!
DEFINITION. Sys2Proof/Machine/Ops.lean: the named operations that the instructions' meanings share: reading and
changing one lane or probe, posting events, the procedures of 42_transport.md (OpenLane, transmit, SendFrame, StopLane)
and what takes the place of an exception's entry here, TeardownActive (43_discovery.md R276) and `done` (R300).
-/

namespace Sys2Proof.Machine

/-! ### Reading and changing parts of the state -/

/-- Lane `p`; a closed lane where there is no port `p`. -/
def State.lane (s : State) (p : Nat) : Lane := s.lanes.getD p Lane.reset

/-- Probe `p`; an idle one where there is no port `p`. -/
def State.probe (s : State) (p : Nat) : Probe := s.probes.getD p Probe.reset

/-- What stands at port `p`'s inputs; an absent port that does not open where there is none. -/
def State.pin (s : State) (p : Nat) : Pin := s.pins.getD p ⟨false, false, 0, 0, 0⟩

/-- Change lane `p`. -/
def State.modLane (s : State) (p : Nat) (f : Lane → Lane) : State := { s with lanes := s.lanes.modify p f }

/-- Change probe `p`. -/
def State.modProbe (s : State) (p : Nat) (f : Probe → Probe) : State := { s with probes := s.probes.modify p f }

/-- Replace the probes. -/
def State.setProbes (s : State) (ps : List Probe) : State := { s with probes := ps }

/-- Change the scan controller. -/
def State.modScan (s : State) (f : Scan → Scan) : State := { s with scan := f s.scan }

/-- Change the request engine. -/
def State.modReq (s : State) (f : Req → Req) : State := { s with req := f s.req }

/-- Change the stored registers. -/
def State.modRegs (s : State) (f : Regs → Regs) : State := { s with regs := f s.regs }

/-- Replace the counters. -/
def State.setDiag (s : State) (d : Diag) : State := { s with diag := d }

/-- Move the connection state (R22). -/
def State.setConn (s : State) (c : Conn) (active : Nat) : State := { s with conn := c, active := active }

/-- `post EVT(data)` (R15): append to the control outbox. -/
def State.post (s : State) (e : Event) : State := { s with ctlOut := s.ctlOut ++ [e] }

/-- Record what the instruction returns. -/
def State.setRet (s : State) (r : Ret) : State := { s with ret := r }

/-- A step that happened, with what it returned. -/
def answer (s : State) (r : Ret) : Out := .next (s.setRet r)

/-- A step that was not enabled: nothing happens (R16: it waits on the environment). -/
def waits (s : State) : Out := .next (s.setRet .waits)

/-! ### Ring buffer: clearing -/

/-- `Clear()` (40_ringbuffer.md R156): storage bytes unchanged. -/
def RingBuf.clear (b : RingBuf) : RingBuf := { b with r := 0, w := 0, count := 0 }

/-! ### Stopping a lane -/

/-- What of the head frame has left on TXD when it is cut off (R229, R230, R374): some prefix, whose length the
environment decides; nothing when no transmission is running. -/
def Lane.cutTx (cut : Nat) (l : Lane) : List Byte :=
  match l.txq with
  | [] => []
  | h :: _ => if l.wt then h.bytes.take cut else []

/-- The lane after StopLane (R230). -/
def Lane.stopped (cut : Nat) (l : Lane) : Lane :=
  { l with txd := l.txd ++ l.cutTx cut, txq := [], wt := false, rx := .stopped, stg := [], rb := l.rb.clear,
           role := .closed }

/-- `notify owner FAIL` inside a stop of lane `p`. For a probe that is PINGING this is ProbeFail(p) (R266), whose
own StopLane is the stop that is running. -/
def notifyStopped (p : Nat) (o : Owner) (s : State) : State :=
  match o with
  | .request => s.modReq (fun q => { q with send := .fail })
  | .probe =>
    if (s.probe p).st = .pinging then s.modProbe p (fun b => { b with st := .fail, timer := none }) else s

/-- `StopLane(p)` (R230). -/
def stopLane (p : Nat) (s : State) : State :=
  ((s.lane p).txq.foldl (fun t i => notifyStopped p i.owner t) s).modLane p (Lane.stopped (s.pin p).cut)

/-! ### Opening a lane and sending -/

/-- The lane after a successful OpenLane (R222). -/
def Lane.opened (role : Role) (baud : Word) (g : Regs) (l : Lane) : Lane :=
  { l with role := role, baud := baud, readTo := g.readTo, writeTo := g.writeTo, rb := l.rb.clear, stg := [],
           txq := [], wt := false, rx := .idle }

/-- `OpenLane(p, role, baud)` (R222): the state, and whether the port opened. -/
def openLane (p : Nat) (role : Role) (baud : Word) (s : State) : State × Bool :=
  if baud = 0 ∨ (s.pin p).openOk = false then (s, false)
  else (s.modLane p (Lane.opened role baud s.regs), true)

/-- The lane after `transmit` (R227): an idle TX engine starts the frame now. -/
def Lane.queued (i : TxItem) (now : Nat) (l : Lane) : Lane :=
  if l.txq = [] then { l with txq := [i], txStart := now, wt := true } else { l with txq := l.txq ++ [i] }

/-- `transmit(p, bytes, owner)` (R227). -/
def transmit (p : Nat) (bytes : List Byte) (o : Owner) (s : State) : State :=
  let s := s.modLane p (Lane.queued ⟨bytes, o⟩ s.now)
  match o with
  | .request => s.modReq (fun q => { q with send := .pending })
  | .probe => s

/-- `SendFrame(p, c, P, owner)` (R233). -/
def sendFrame (p : Nat) (c : Byte) (payload : List Byte) (o : Owner) (s : State) : State × SendResult :=
  match encodeFrame c payload with
  | none => (s, .fail)
  | some bytes => if (s.lane p).role = .closed then (s, .fail) else (transmit p bytes o s, .queued)

/-! ### Failures: probe failure, teardown, request completion -/

/-- `ProbeFail(p)` (R267). -/
def probeFail (p : Nat) (s : State) : State :=
  match (s.probe p).st with
  | .pinging | .waiting | .ok => stopLane p (s.modProbe p (fun b => { b with st := .fail, timer := none }))
  | .idle | .opening | .fail => s

/-- `TeardownActive(reason)` (R276); it "runs only in Connected" (R350). -/
def teardownActive (reason : Reason) (s : State) : State :=
  if s.conn = .connected then
    ((stopLane s.active s).setConn .disconnected noPort).post (.disconnected reason)
  else s

/-- `done(op, result)` (R300): post REQ_DONE and move to phase DONE. -/
def reqDone (op : Byte) (r : Result) (s : State) : State :=
  (s.post (.reqDone op r)).modReq (fun q => { q with phase := .done })

/-- `CONNECTED` on lane `p` (R269, R272): the connection state, the valid bits (R34), the event. -/
def becomeConnected (p : Nat) (s : State) : State :=
  ((s.setConn .connected p).modRegs Regs.invalidate).post (.connected p)

end Sys2Proof.Machine
end

