-- ==== Sys2Proof/Machine/RegBus.lean ====
section
/-!
DEFINITION. Sys2Proof/Machine/RegBus.lean: the register bus (30_encoding.md R142-R145, 10_state.md R24-R41, 20_memory.md
R74, R76) and the meanings of the rows REG_READ and REG_WRITE.
-/

namespace Sys2Proof.Machine

/-- The word an offset selects: `off[7:2]` (R142; bits [1:0] are ignored, R74). -/
def regIndex (off : Byte) : Nat := off.toNat / 4

/-- RB_COUNT (R30). -/
def rbCountWord (s : State) : Word :=
  if s.conn = .connected then BitVec.ofNat 32 (s.lane s.active).rb.count else 0

/-- The register a word index names, read now (R143); an unmapped offset reads 0 (R144). -/
def readReg (off : Byte) (s : State) : Word :=
  match regIndex off with
  | 0x00 => stateWord s
  | 0x01 => s.regs.baud
  | 0x02 => s.regs.readTo
  | 0x03 => s.regs.writeTo
  | 0x04 => s.regs.probeTo
  | 0x05 => BitVec.ofNat 32 s.params.rbCap
  | 0x06 => rbCountWord s
  | 0x07 => BitVec.ofNat 32 s.params.nPorts
  | 0x08 => s.regs.scanEligible
  | 0x09 => s.regs.scanHits
  | 0x0A => s.diag.framesOk
  | 0x0B => s.diag.hdrSlip
  | 0x0C => s.diag.tailFail
  | 0x0D => s.diag.csumFail
  | 0x0E => s.diag.ovfClear
  | 0x0F => s.diag.rxOverrun
  | k =>
    if k < 0x16 then le32 s.regs.lastConfig (4 * (k - 0x10))
    else if 0x18 ≤ k ∧ k < 0x22 then le32 s.regs.lastStatus (4 * (k - 0x18))
    else 0

/-- The effect of a register write (R145); none on a read-only or unmapped offset (R144). -/
def writeReg (off : Byte) (v : Word) (s : State) : State :=
  match regIndex off with
  | 0x01 => s.modRegs (fun g => { g with baud := v })
  | 0x02 => s.modRegs (fun g => { g with readTo := v })
  | 0x03 => s.modRegs (fun g => { g with writeTo := v })
  | 0x04 => s.modRegs (fun g => { g with probeTo := v })
  | _ => s

/-- REG_READ (R143). -/
def execRegRead (off : Byte) (s : State) : Out := answer s (.word (readReg off s))

/-- REG_WRITE (R145). -/
def execRegWrite (off : Byte) (v : Word) (s : State) : Out := answer (writeReg off v s) .unit

end Sys2Proof.Machine
end

