-- ==== Sys2Proof/Machine/RingBuffer.lean ====
section
/-!
DEFINITION. Sys2Proof/Machine/RingBuffer.lean: the six ring-buffer operations (40_ringbuffer.md R150-R156) and the
meanings of the rows RB_WRITE … RB_CLEAR.
-/

namespace Sys2Proof.Machine

/-- The occupied bytes, oldest first (R40). -/
def RingBuf.content (cap : Nat) (b : RingBuf) : List Byte :=
  (List.range b.count).map (fun i => b.mem.read ((b.r + i) % cap))

/-- The store loop of Write: `mem[w] <- data[i]; w <- (w + 1) mod RB_CAP` for each byte (R151). -/
def storeBytes (cap : Nat) : Memory → Nat → List Byte → Memory × Nat
  | m, w, [] => (m, w)
  | m, w, b :: bs => storeBytes cap (m.write w b) ((w + 1) % cap) bs

/-- Append a chunk that fits (the tail of Write, R151). -/
def RingBuf.append (cap : Nat) (data : List Byte) (b : RingBuf) : RingBuf :=
  let (m, w) := storeBytes cap b.mem b.w data
  { b with mem := m, w := w, count := b.count + data.length }

/-- `Write(data)` (R151): the buffer, and whether it cleared. -/
def RingBuf.write (cap : Nat) (pol : OvfPolicy) (data : List Byte) (b : RingBuf) : RingBuf × Bool :=
  if data.length > cap - b.count then
    if pol = .clearAndDrop ∨ data.length > cap then (b.clear, true) else (b.clear.append cap data, true)
  else (b.append cap data, false)

/-- `Peek(n)` (R152). -/
def RingBuf.peek (cap n : Nat) (b : RingBuf) : List Byte :=
  (List.range (min n b.count)).map (fun i => b.mem.read ((b.r + i) % cap))

/-- `PeekByte(i)` (R153); 0x00 out of range. -/
def RingBuf.peekByte (cap i : Nat) (b : RingBuf) : Byte :=
  if i < b.count then b.mem.read ((b.r + i) % cap) else 0x00#8

/-- `Skip(n)` (R155). -/
def RingBuf.skip (cap n : Nat) (b : RingBuf) : RingBuf :=
  { b with r := (b.r + min n b.count) % cap, count := b.count - min n b.count }

/-- `Read(n)` (R154): the buffer, and the bytes. -/
def RingBuf.read (cap n : Nat) (b : RingBuf) : RingBuf × List Byte :=
  (b.skip cap n, b.peek cap (min n b.count))

/-- The ring buffer of lane `p` replaced. -/
def State.setRb (s : State) (p : Nat) (b : RingBuf) : State := s.modLane p (fun l => { l with rb := b })

/-- `rb[p].Write(data)` with its counter (R151, R39). -/
def rbWrite (p : Nat) (data : List Byte) (s : State) : State :=
  let (b, cleared) := (s.lane p).rb.write s.params.rbCap s.params.ovfPolicy data
  let s := s.setRb p b
  if cleared then s.setDiag s.diag.addOvfClear else s

/-! ### Meanings -/

/-- RB_WRITE (R151). -/
def execRbWrite (p : Nat) (data : List Byte) (s : State) : Out := answer (rbWrite p data s) .unit

/-- RB_PEEK (R152). -/
def execRbPeek (p n : Nat) (s : State) : Out := answer s (.bytes ((s.lane p).rb.peek s.params.rbCap n))

/-- RB_PEEKBYTE (R153). -/
def execRbPeekByte (p i : Nat) (s : State) : Out := answer s (.byte ((s.lane p).rb.peekByte s.params.rbCap i))

/-- RB_READ (R154). -/
def execRbRead (p n : Nat) (s : State) : Out :=
  let (b, bytes) := (s.lane p).rb.read s.params.rbCap n
  answer (s.setRb p b) (.bytes bytes)

/-- RB_SKIP (R155). -/
def execRbSkip (p n : Nat) (s : State) : Out :=
  answer (s.setRb p ((s.lane p).rb.skip s.params.rbCap n)) .unit

/-- RB_CLEAR (R156). -/
def execRbClear (p : Nat) (s : State) : Out := answer (s.setRb p (s.lane p).rb.clear) .unit

end Sys2Proof.Machine
end

