-- ==== Sys2Proof/Machine/FrameCodec.lean ====
section
/-!
DEFINITION. Sys2Proof/Machine/FrameCodec.lean: the parser (41_framecodec.md R184-R190) and the meanings of the rows
CSUM, ENCODE and PARSE_ALL.
-/

namespace Sys2Proof.Machine

/-- The payload of a candidate of length `len` at the front of the buffer (R189). -/
def candidatePayload (cap len : Nat) (b : RingBuf) : List Byte :=
  (List.range len).map (fun i => b.peekByte cap (4 + i))

/-- One iteration of the parser's loop: `none` when the pass stops (R185, R187), else the buffer and counters after
it and the frame it emitted, if any (R186, R188-R190). -/
def parseOnce (cap : Nat) (b : RingBuf) (d : Diag) : Option (RingBuf × Diag × List Frame) :=
  if b.count < 7 then none
  else if b.peekByte cap 0 ≠ 0xAA#8 ∨ b.peekByte cap 1 ≠ 0x55#8 then some (b.skip cap 1, d.addHdrSlip, [])
  else
    let len := (b.peekByte cap 3).toNat
    if b.count < 7 + len then none
    else if b.peekByte cap (5 + len) ≠ 0x0D#8 ∨ b.peekByte cap (6 + len) ≠ 0x0A#8 then
      some (b.skip cap 1, d.addTailFail, [])
    else
      let c := b.peekByte cap 2
      let payload := candidatePayload cap len b
      if b.peekByte cap (4 + len) ≠ csum c payload then some (b.skip cap 1, d.addCsumFail, [])
      else
        let (b', raw) := b.read cap (7 + len)
        some (b', d.addFrameOk, [⟨c, payload, raw⟩])

/-- At most `fuel` iterations. A pass ends after at most `count` of them (R194), so `count` is fuel enough. -/
def parseLoop (cap : Nat) : Nat → RingBuf → Diag → RingBuf × Diag × List Frame
  | 0, b, d => (b, d, [])
  | fuel + 1, b, d =>
    match parseOnce cap b d with
    | none => (b, d, [])
    | some (b', d', out) =>
      let (b'', d'', rest) := parseLoop cap fuel b' d'
      (b'', d'', out ++ rest)

/-- `ParseAll(p)` (R184): the state, and the frames in the order found. -/
def parseAll (p : Nat) (s : State) : State × List Frame :=
  let b := (s.lane p).rb
  let (b', d', out) := parseLoop s.params.rbCap b.count b s.diag
  ((s.setRb p b').setDiag d', out)

/-! ### Meanings -/

/-- CSUM (R180). -/
def execCsum (c : Byte) (payload : List Byte) (s : State) : Out := answer s (.byte (csum c payload))

/-- ENCODE (R181); a payload over 255 bytes is REFUSED, as an answer (R182). -/
def execEncodeFrame (c : Byte) (payload : List Byte) (s : State) : Out :=
  match encodeFrame c payload with
  | some bytes => answer s (.bytes bytes)
  | none => answer s .encodeRefused

/-- PARSE_ALL (R184). -/
def execParseAll (p : Nat) (s : State) : Out :=
  let (s', out) := parseAll p s
  answer s' (.frames out)

end Sys2Proof.Machine
end

