-- ==== Sys2Proof/Machine/Discovery.lean ====
section
/-!
DEFINITION. Sys2Proof/Machine/Discovery.lean: the scan controller (43_discovery.md R262-R269) and the meanings of the
rows START_SCAN … TEARDOWN_ACTIVE.
-/

namespace Sys2Proof.Machine

/-! ### Eligibility and scan start -/

/-- The case-sensitive substring test over exact characters (R263); the empty string is in every name. -/
def hasSubstring (d name : PortName) : Bool := name.tails.any (fun t => d.isPrefixOf t)

/-- Port `p` is present and not denylisted (R263). -/
def eligible (s : State) (p : Nat) : Bool :=
  (s.pin p).present && !s.params.denylist.any (fun d => hasSubstring d (s.params.portName.getD p []))

/-- `Σ_{p ∈ E} 2^p` over the ports that satisfy `e` (R264). -/
def portMask (n : Nat) (e : Nat → Bool) : Word :=
  (List.range n).foldl (fun m p => if e p then m ||| (1#32 <<< p) else m) 0

/-- `StartScan()` (R264). -/
def startScan (s : State) : State :=
  let mask := portMask s.params.nPorts (eligible s)
  let probes := s.probes.mapIdx (fun p b => { b with st := if eligible s p then .opening else .idle })
  let s := (s.setConn .scanning s.active).modScan (fun c =>
    { c with active := true, baud := s.regs.baud, probeTo := s.regs.probeTo, winner := none, tWin := 0,
             result := .unset })
  let s := s.modRegs (fun g => { g with scanEligible := mask, scanHits := 0 })
  s.setProbes probes

/-! ### Probes -/

/-- `ProbeOpen(p)` (R265), when it is enabled. -/
def probeOpen (p : Nat) (s : State) : State :=
  match openLane p .probe s.scan.baud s with
  | (s, false) => s.modProbe p (fun b => { b with st := .fail })
  | (s, true) =>
    let n := (s.pin p).nonce
    let s := s.modProbe p (fun b => { b with nonce := n })
    (sendFrame p s.params.code.ping [n] .probe s).1.modProbe p (fun b => { b with st := .pinging })

/-- `Arbitrate(p)` (R268). -/
def arbitrate (p : Nat) (s : State) : State :=
  match s.scan.winner with
  | none => s.modScan (fun c => { c with winner := some p, tWin := s.now })
  | some w =>
    if s.scan.tWin = s.now ∧ p < w then s.modScan (fun c => { c with winner := some p, tWin := s.now }) else s

/-- `ProbeSuccess(p)` (R267). -/
def probeSuccess (p : Nat) (s : State) : State :=
  arbitrate p ((s.modProbe p (fun b => { b with st := .ok, timer := none })).modRegs
    (fun g => { g with scanHits := g.scanHits ||| (1#32 <<< p) }))

/-- A frame answers probe `p`'s Ping: a Ping_ACK whose first payload byte is the nonce, while the probe is PINGING
or WAITING (R113, R267). -/
def probeMatches (p : Nat) (f : Frame) (s : State) : Bool :=
  ((s.probe p).st = .pinging || (s.probe p).st = .waiting) && f.code == s.params.code.pingAck &&
  f.payload.head? == some (s.probe p).nonce

/-- `ProbeFrame(p, f)` (R267): every other frame on a probe lane is dropped (R270, R271). -/
def probeFrame (p : Nat) (f : Frame) (s : State) : State :=
  if probeMatches p f s then probeSuccess p s else s

/-- Timer PT[p] has expired (R266): it runs, the probe is WAITING, and its time has come. -/
def probeTimerDue (p : Nat) (s : State) : Bool :=
  match (s.probe p).timer with
  | none => false
  | some t0 => (s.probe p).st = .waiting && decide (t0 + s.scan.probeTo.toNat ≤ s.now)

/-! ### Scan end -/

/-- The scan-end step is enabled (R269). -/
def scanEndReady (s : State) : Bool :=
  s.scan.active && s.probes.all (fun b => b.st = .idle || b.st = .ok || b.st = .fail)

/-- "losers disposed": every probe lane but the winner's stops (R269). -/
def stopLosers (s : State) : State :=
  (List.range s.params.nPorts).foldl
    (fun t p => if (t.lane p).role = .probe ∧ s.scan.winner ≠ some p then stopLane p t else t) s

/-- What a scan with no usable winner leaves (R269). -/
def scanFails (reason : Reason) (s : State) : State :=
  ((s.setConn .disconnected s.active).post (.disconnected reason)).modScan (fun c => { c with result := .noDevice })

/-- What a scan with winner `w` leaves: its lane becomes the connection, its ring buffer is kept (R269). -/
def scanWins (w : Nat) (s : State) : State :=
  (becomeConnected w (s.modLane w (fun l => { l with role := .active }))).modScan
    (fun c => { c with result := .ok })

/-- `ScanEnd()` (R269), when it is enabled. -/
def scanEnd (s : State) : State :=
  let s := (stopLosers s).modScan (fun c => { c with active := false })
  let s := s.setProbes (s.probes.map (fun b => { b with st := .idle }))
  match s.scan.winner with
  | none => scanFails .noDevice s
  | some w => if (s.lane w).role = .probe then scanWins w s else scanFails .ioFail s

/-! ### Meanings -/

/-- START_SCAN (R264). -/
def execStartScan (s : State) : Out := answer (startScan s) .unit

/-- PROBE_OPEN (R265): a step of the scan controller, enabled while the probe is OPENING. -/
def execProbeOpen (p : Nat) (s : State) : Out :=
  if (s.probe p).st = .opening then answer (probeOpen p s) .unit else waits s

/-- PROBE_TIMER (R266): the expiry of PT[p] is ProbeFail(p). -/
def execProbeTimer (p : Nat) (s : State) : Out :=
  if probeTimerDue p s then answer (probeFail p s) .unit else waits s

/-- PROBE_FRAME (R267). -/
def execProbeFrame (p : Nat) (f : Frame) (s : State) : Out := answer (probeFrame p f s) .unit

/-- ARBITRATE (R268). -/
def execArbitrate (p : Nat) (s : State) : Out := answer (arbitrate p s) .unit

/-- SCAN_END (R269). -/
def execScanEnd (s : State) : Out := if scanEndReady s then answer (scanEnd s) .unit else waits s

/-- TEARDOWN_ACTIVE (R276): it requires Connected. -/
def execTeardownActive (reason : Reason) (s : State) : Out :=
  if s.conn = .connected then answer (teardownActive reason s) .unit else waits s

end Sys2Proof.Machine
end

