-- ==== Sys2Proof/Machine/Inbound.lean ====
section
/-!
DEFINITION. Sys2Proof/Machine/Inbound.lean: what the protocol handler makes of a frame on the active lane
(44_protocol.md R320-R326), and the meaning of the row INBOUND.
-/

namespace Sys2Proof.Machine

/-- `DecodeConfig(f)` (R321). -/
def decodeConfig (f : Frame) (s : State) : State × List Event :=
  if f.payload.length < 21 then (s, [.decodeFailed f.code (BitVec.ofNat 8 f.payload.length)])
  else (s.modRegs (Regs.withConfig (f.payload.take 21)), [.configReceived (f.payload.take 21)])

/-- `DecodeStatus(f)` (R322). -/
def decodeStatus (f : Frame) (s : State) : State × List Event :=
  if f.payload.length < 37 then (s, [.decodeFailed f.code (BitVec.ofNat 8 f.payload.length)])
  else (s.modRegs (Regs.withStatus (f.payload.take 37)), [.statusReceived (f.payload.take 37)])

/-- `DecodeError(f)` (R323). -/
def decodeError (f : Frame) (s : State) : State × List Event :=
  match f.payload with
  | [] => (s, [.decodeFailed f.code 0])
  | e :: _ => (s, [.errorReceived e])

/-- The typed part of `Inbound(f)`: what follows FRAME_RECEIVED (R320-R325). -/
def inboundTyped (f : Frame) (s : State) : State × List Event :=
  if f.code = s.params.code.returnConfig then decodeConfig f s
  else if f.code = s.params.code.returnStatus then decodeStatus f s
  else if f.code = s.params.code.error then decodeError f s
  else if f.code = s.params.code.ack then (s, [.ackReceived .ack])
  else if f.code = s.params.code.nack then (s, [.ackReceived .nack])
  else if f.code = s.params.code.sack then (s, [.ackReceived .sack])
  else (s, [])

/-- `Inbound(f)` (R320): FRAME_RECEIVED is always first. -/
def inbound (f : Frame) (s : State) : State × List Event :=
  let (s, evs) := inboundTyped f s
  (s, .frameReceived f.raw :: evs)

/-- INBOUND (R320). -/
def execInbound (f : Frame) (s : State) : Out :=
  let (s', evs) := inbound f s
  answer s' (.events evs)

end Sys2Proof.Machine
end

