-- ==== Sys2Proof/Machine/Transport.lean ====
section
/-!
DEFINITION. Sys2Proof/Machine/Transport.lean: the steps of a serial lane (42_transport.md R222-R233) and the meanings
of the rows OPEN_LANE … SEND_FRAME.
-/

namespace Sys2Proof.Machine

/-! ### Receive path -/

/-- `Arrive(p, b)` (R223). -/
def arrive (p : Nat) (b : Byte) (s : State) : State :=
  if (s.lane p).role = .closed then s
  else if s.params.rdChunk ≤ (s.lane p).stg.length then s.setDiag s.diag.addRxOverrun
  else s.modLane p (fun l => { l with stg := l.stg ++ [b] })

/-- RxStep(p) is enabled (R226). -/
def rxReady (p : Nat) (s : State) : Bool := (s.lane p).rx = .idle && (s.lane p).stg ≠ []

/-- One frame of an RX step, by the role of its lane (R226). -/
def routeFrame (p : Nat) (f : Frame) (s : State) : State × List Event :=
  match (s.lane p).role with
  | .active => inbound f s
  | .probe => (probeFrame p f s, [])
  | .closed => (s, [])

/-- The frames of an RX step, in stream order, with the events they give (R226). -/
def routeFrames (p : Nat) : List Frame → State → State × List Event
  | [], s => (s, [])
  | f :: fs, s =>
    let (s, evs) := routeFrame p f s
    let (s, more) := routeFrames p fs s
    (s, evs ++ more)

/-- The RX step of lane `p` with the oldest `k` staged bytes as its chunk (R224, R226). -/
def rxChunk (p k : Nat) (s : State) : State :=
  let chunk := (s.lane p).stg.take k
  let s := s.modLane p (fun l => { l with stg := l.stg.drop k })
  let (s, frames) := parseAll p (rbWrite p chunk s)
  let (s, evs) := routeFrames p frames s
  if evs = [] then s else s.modLane p (fun l => { l with rx := .delivering evs })

/-- The draw of `k` in 1..|stg[p]| (R224): what the read returns, brought into that range. -/
def chunkLen (p : Nat) (s : State) : Nat := max 1 (min (s.pin p).chunk (s.lane p).stg.length)

/-- `RxStep(p)` (R226), when it is enabled. -/
def rxStep (p : Nat) (s : State) : State := rxChunk p (chunkLen p s) s

/-- The line `RX p: b1, …, bk` (R147, R224): the bytes arrive, then one RX step takes all that is staged. -/
def rxLine (p : Nat) (bytes : List Byte) (s : State) : State :=
  let s := bytes.foldl (fun t b => arrive p b t) s
  if rxReady p s then rxChunk p (s.lane p).stg.length s else s

/-! ### Transmit path -/

/-- `notify owner OK` (R228, R266). -/
def notifyOk (p : Nat) (o : Owner) (s : State) : State :=
  match o with
  | .request => s.modReq (fun q => { q with send := .ok })
  | .probe =>
    if (s.probe p).st = .pinging then s.modProbe p (fun b => { b with st := .waiting, timer := some s.now }) else s

/-- `notify owner FAIL` (R229, R266). -/
def notifyFail (p : Nat) (o : Owner) (s : State) : State :=
  match o with
  | .request => s.modReq (fun q => { q with send := .fail })
  | .probe => if (s.probe p).st = .pinging then probeFail p s else s

/-- The lane when the head frame has left whole (R228). -/
def Lane.headSent (l : Lane) : Lane :=
  match l.txq with
  | [] => l
  | h :: rest => { l with txd := l.txd ++ h.bytes, txq := rest, wt := false }

/-- The TX engine takes up the next queued frame, if there is one (R228). -/
def Lane.startNext (now : Nat) (l : Lane) : Lane :=
  if l.txq = [] then l else { l with txStart := now, wt := true }

/-- `TxDone(p)` (R228) with the head frame's owner. -/
def txDone (p : Nat) (o : Owner) (s : State) : State :=
  let s := notifyOk p o (s.modLane p Lane.headSent)
  s.modLane p (Lane.startNext s.now)

/-- Timer WT[p] has expired: it runs, the head frame has not completed, and its time has come (R229). -/
def writeTimeoutDue (p : Nat) (s : State) : Bool :=
  (s.lane p).wt && (s.lane p).txq ≠ [] && decide ((s.lane p).txStart + (s.lane p).writeTo.toNat ≤ s.now)

/-- The lane when the head frame has failed: some prefix of it has left (R229). -/
def Lane.headFailed (cut : Nat) (l : Lane) : Lane :=
  { l with txd := l.txd ++ l.cutTx cut, txq := l.txq.tail, wt := false }

/-- `WriteTimeout(p)` (R229) with the head frame's owner. -/
def writeTimeout (p : Nat) (o : Owner) (s : State) : State :=
  let s := notifyFail p o (s.modLane p (Lane.headFailed (s.pin p).cut))
  if (s.lane p).role = .active then teardownActive .writeTimeout s else s

/-! ### Platform faults -/

/-- `Fault(p)` (R231). -/
def portFault (p : Nat) (s : State) : State :=
  match (s.lane p).role with
  | .active => teardownActive .ioFail s
  | .probe => probeFail p s
  | .closed => s

/-! ### Meanings -/

/-- OPEN_LANE (R222). -/
def execOpenLane (p : Nat) (role : Role) (baud : Word) (s : State) : Out :=
  let (s', ok) := openLane p role baud s
  answer s' (.bool ok)

/-- ARRIVE (R223). -/
def execArrive (p : Nat) (b : Byte) (s : State) : Out := answer (arrive p b s) .unit

/-- RX_STEP (R226): enabled while the RX engine is IDLE and bytes are staged. -/
def execRxStep (p : Nat) (s : State) : Out := if rxReady p s then answer (rxStep p s) .unit else waits s

/-- TRANSMIT (R227). -/
def execTransmit (p : Nat) (bytes : List Byte) (o : Owner) (s : State) : Out := answer (transmit p bytes o s) .unit

/-- TX_DONE (R228): enabled while a frame is queued. -/
def execTxDone (p : Nat) (s : State) : Out :=
  match (s.lane p).txq with
  | [] => waits s
  | h :: _ => answer (txDone p h.owner s) .unit

/-- WRITE_TIMEOUT (R229): the expiry of WT[p]. -/
def execWriteTimeout (p : Nat) (s : State) : Out :=
  match (s.lane p).txq with
  | [] => waits s
  | h :: _ => if writeTimeoutDue p s then answer (writeTimeout p h.owner s) .unit else waits s

/-- STOP_LANE (R230). -/
def execStopLane (p : Nat) (s : State) : Out := answer (stopLane p s) .unit

/-- FAULT (R231). -/
def execPortFault (p : Nat) (s : State) : Out := answer (portFault p s) .unit

/-- SEND_FRAME (R233). -/
def execSendFrame (p : Nat) (c : Byte) (payload : List Byte) (o : Owner) (s : State) : Out :=
  let (s', r) := sendFrame p c payload o s
  answer s' (.send r)

end Sys2Proof.Machine
end

