-- ==== Sys2Proof/Machine/WireFrames.lean ====
section
/-!
DEFINITION. Sys2Proof/Machine/WireFrames.lean: the meanings of the rows FRAME_… (30_encoding.md R100-R106). A command
frame is sent: the framer builds it and the lane's TX engine takes it (R104, 42_transport.md R233). A response frame,
or one of any other code, is received: its bytes arrive on RXD[p] and the lane takes an RX step (R105, R106, R147).
-/

namespace Sys2Proof.Machine

/-- A command frame handed to lane `p`'s TX engine, with what SendFrame answers. -/
def sendCommand (p : Nat) (c : Byte) (payload : List Byte) (o : Owner) (s : State) : Out :=
  let (s', r) := sendFrame p c payload o s
  answer s' (.send r)

/-- A whole frame received on lane `p`. -/
def receiveFrame (p : Nat) (c : Byte) (payload : List Byte) (s : State) : Out :=
  answer (rxLine p (frameBytes c payload) s) .unit

/-- FRAME_EnableDisable: sent by SET_ENABLE (R104, R310). -/
def execFrameEnableDisable (p : Nat) (payload : List Byte) (s : State) : Out :=
  sendCommand p s.params.code.enableDisable payload .request s

/-- FRAME_Ping: sent by a probe (R104, R265). -/
def execFramePing (p : Nat) (payload : List Byte) (s : State) : Out :=
  sendCommand p s.params.code.ping payload .probe s

/-- FRAME_GetConfig: sent by GET_CONFIG (R104, R304). -/
def execFrameGetConfig (p : Nat) (payload : List Byte) (s : State) : Out :=
  sendCommand p s.params.code.getConfig payload .request s

/-- FRAME_GetStatus: sent by GET_STATUS (R104, R305). -/
def execFrameGetStatus (p : Nat) (payload : List Byte) (s : State) : Out :=
  sendCommand p s.params.code.getStatus payload .request s

/-- FRAME_SetStimulation: sent by SET_STIMULATION (R104, R306). -/
def execFrameSetStimulation (p : Nat) (payload : List Byte) (s : State) : Out :=
  sendCommand p s.params.code.setStimulation payload .request s

/-- FRAME_SetPhases: sent by SET_PHASES (R104, R309). -/
def execFrameSetPhases (p : Nat) (payload : List Byte) (s : State) : Out :=
  sendCommand p s.params.code.setPhases payload .request s

/-- FRAME_ACK: received (R324). -/
def execFrameAck (p : Nat) (payload : List Byte) (s : State) : Out := receiveFrame p s.params.code.ack payload s

/-- FRAME_NACK: received (R324). -/
def execFrameNack (p : Nat) (payload : List Byte) (s : State) : Out := receiveFrame p s.params.code.nack payload s

/-- FRAME_Ping_ACK: received (R267 on a probe lane, R325 on the active lane). -/
def execFramePingAck (p : Nat) (payload : List Byte) (s : State) : Out :=
  receiveFrame p s.params.code.pingAck payload s

/-- FRAME_ReturnConfig: received (R321). -/
def execFrameReturnConfig (p : Nat) (payload : List Byte) (s : State) : Out :=
  receiveFrame p s.params.code.returnConfig payload s

/-- FRAME_ReturnStatus: received (R322). -/
def execFrameReturnStatus (p : Nat) (payload : List Byte) (s : State) : Out :=
  receiveFrame p s.params.code.returnStatus payload s

/-- FRAME_SACK: received (R324). -/
def execFrameSack (p : Nat) (payload : List Byte) (s : State) : Out := receiveFrame p s.params.code.sack payload s

/-- FRAME_Error: received (R323). -/
def execFrameError (p : Nat) (payload : List Byte) (s : State) : Out := receiveFrame p s.params.code.error payload s

/-- FRAME_OTHER: a received frame of any other code (R106, R325). -/
def execFrameOther (p : Nat) (c : Byte) (payload : List Byte) (s : State) : Out := receiveFrame p c payload s

end Sys2Proof.Machine
end

