-- ==== Sys2Proof/Machine/Requests.lean ====
section
/-!
DEFINITION. Sys2Proof/Machine/Requests.lean: the request engine (44_protocol.md R300-R303), the requests it runs
(43_discovery.md R272-R275, 44_protocol.md R304-R311), and the meanings of the rows of format REQ, EXECUTE, PROTOCOL_SEND
and REQUEST_ENGINE_STEPS.
-/

namespace Sys2Proof.Machine

/-! ### Validation -/

/-- The nine requests (R146). -/
inductive ReqKind where
  | manualConnect
  | reconnect
  | scan
  | disconnect
  | getConfig
  | getStatus
  | setStimulation
  | setPhases
  | setEnable
  deriving DecidableEq, Repr

/-- The request an opcode names; none when it is reserved (R129, R146). -/
def reqKind (op : Byte) : Option ReqKind :=
  match op.toNat with
  | 0x01 => some .manualConnect
  | 0x02 => some .reconnect
  | 0x03 => some .scan
  | 0x04 => some .disconnect
  | 0x05 => some .getConfig
  | 0x06 => some .getStatus
  | 0x07 => some .setStimulation
  | 0x08 => some .setPhases
  | 0x09 => some .setEnable
  | _ => none

/-- `well_formed(op, ops, n)` (R302, R121-R128). -/
def wellFormedReq (nPorts : Nat) (k : ReqKind) (ops : List Byte) : Bool :=
  match k with
  | .manualConnect => ops.length = 5 && decide ((byteAt ops 0).toNat < nPorts)
  | .reconnect | .scan | .disconnect | .getConfig | .getStatus => ops.length = 0
  | .setStimulation => decide (1 ≤ ops.length) && stimOlen (byteAt ops 0) = some ops.length
  | .setPhases => ops.length % 4 = 0
  | .setEnable => ops.length = 1

/-- The protocol requests, opcodes 0x05-0x09, which need a connection (R302). -/
def ReqKind.needsConnection : ReqKind → Bool
  | .manualConnect | .reconnect | .scan | .disconnect => false
  | .getConfig | .getStatus | .setStimulation | .setPhases | .setEnable => true

/-! ### Connection requests -/

/-- `ManualConnect(p, baud)` (R272). -/
def manualConnect (op : Byte) (p : Nat) (baud : Word) (s : State) : State :=
  match s.conn with
  | .scanning => reqDone op .badState s
  | .disconnected | .connected =>
    match openLane p .active baud (teardownActive .requested s) with
    | (s, true) => reqDone op .ok (becomeConnected p s)
    | (s, false) => reqDone op .openFail (s.post (.disconnected .openFail))

/-- `Disconnect()` (R273). -/
def disconnect (op : Byte) (s : State) : State :=
  match s.conn with
  | .connected => reqDone op .ok (teardownActive .requested s)
  | .disconnected => reqDone op .ok s
  | .scanning => reqDone op .badState s

/-- StartScan inside a Take step: the engine then waits for the scan (R300). -/
def beginScan (s : State) : State := (startScan s).modReq (fun q => { q with phase := .scan })

/-- `Reconnect()` (R274). -/
def reconnect (op : Byte) (s : State) : State :=
  match s.conn with
  | .connected => beginScan (teardownActive .reconnect s)
  | .disconnected => beginScan s
  | .scanning => reqDone op .badState s

/-- `Scan()` (R275). -/
def scanRequest (op : Byte) (s : State) : State :=
  if s.conn = .disconnected then beginScan s else reqDone op .badState s

/-! ### Protocol requests -/

/-- `ProtocolSend(c, P)` (R303). -/
def protocolSend (c : Byte) (payload : List Byte) (s : State) : State :=
  match sendFrame s.active c payload .request (s.modReq (fun q => { q with phase := .send })) with
  | (s, .queued) => s
  | (s, .fail) => s.modReq (fun q => { q with send := .fail })

/-- `GetConfig()` (R304). -/
def getConfig (s : State) : State := protocolSend s.params.code.getConfig [] s

/-- `GetStatus()` (R305). -/
def getStatus (s : State) : State := protocolSend s.params.code.getStatus [] s

/-- `SetStimulation(ops)` (R306). -/
def setStimulation (ops : List Byte) (s : State) : State :=
  protocolSend s.params.code.setStimulation (stimPayload s.params.stimCode ops) s

/-- `SetPhases(ops)` (R309). -/
def setPhases (ops : List Byte) (s : State) : State := protocolSend s.params.code.setPhases ops s

/-- `SetEnable(ops)` (R310). -/
def setEnable (ops : List Byte) (s : State) : State := protocolSend s.params.code.enableDisable (enablePayload ops) s

/-! ### Execute -/

/-- The operation of a request that passed every check (R302). -/
def runRequest (k : ReqKind) (op : Byte) (ops : List Byte) (s : State) : State :=
  match k with
  | .manualConnect => manualConnect op (byteAt ops 0).toNat (le32 ops 1) s
  | .reconnect => reconnect op s
  | .scan => scanRequest op s
  | .disconnect => disconnect op s
  | .getConfig => getConfig s
  | .getStatus => getStatus s
  | .setStimulation => setStimulation ops s
  | .setPhases => setPhases ops s
  | .setEnable => setEnable ops s

/-- The check that refuses a request, in R347's order; none when it is accepted for its operation (R302). -/
def requestError (d : Descriptor) (s : State) : Option Result :=
  match reqKind d.opcode with
  | none => some .badOpcode
  | some k =>
    if wellFormedReq s.params.nPorts k d.ops = false then some .badRequest
    else if k = .setPhases ∧ d.ops.length / 4 > 63 then some .phaseCap
    else if k.needsConnection ∧ s.conn ≠ .connected then some .notConnected
    else none

/-- `Execute(d)` (R302). -/
def execute (d : Descriptor) (s : State) : State :=
  match requestError d s with
  | some r => reqDone d.opcode r s
  | none =>
    match reqKind d.opcode with
    | none => s
    | some k => runRequest k d.opcode d.ops s

/-! ### The engine's steps -/

/-- Take is enabled (R300). -/
def takeReady (s : State) : Bool := !s.req.busy && s.ctlOut = []

/-- `Take()` of the descriptor `d` (R300). -/
def take (d : Descriptor) (s : State) : State :=
  execute d (s.modReq (fun q => { q with busy := true, cur := d, phase := .validate }))

/-- The host offers `d` (R6, R300): a request engine that is not ready does not take it. -/
def offer (d : Descriptor) (s : State) : Out := if takeReady s then answer (take d s) .unit else waits s

/-- `Finish(d)` with the frame's outcome (R303, R308). -/
def finish (d : Descriptor) (ok : Bool) (s : State) : State :=
  let s :=
    if ok then
      reqDone d.opcode .ok (if d.opcode = 0x07#8 then s.post (.stimulationSent d.ops) else s)
    else reqDone d.opcode .sendFail s
  s.modReq (fun q => { q with send := .unset })

/-- `SendComplete()` (R300). -/
def execSendComplete (s : State) : Out :=
  if s.req.phase = .send then
    match s.req.send with
    | .ok => answer (finish s.req.cur true s) .unit
    | .fail => answer (finish s.req.cur false s) .unit
    | .unset | .pending => waits s
  else waits s

/-- `ScanComplete()` (R300). A scan that ended has a result (R269). -/
def execScanComplete (s : State) : Out :=
  if s.req.phase = .scan ∧ s.scan.active = false then
    match s.scan.result with
    | .ok => answer (reqDone s.req.cur.opcode .ok s) .unit
    | .noDevice => answer (reqDone s.req.cur.opcode .noDevice s) .unit
    | .unset => waits s
  else waits s

/-- `Retire()` (R300). -/
def execRetire (s : State) : Out :=
  if s.req.phase = .done ∧ s.ctlOut = [] then
    answer (s.modReq (fun q => { q with busy := false, phase := .idle })) .unit
  else waits s

/-! ### Meanings -/

/-- MANUAL_CONNECT (R121, R272). -/
def execManualConnect (ops : List Byte) (s : State) : Out := offer ⟨0x01#8, ops⟩ s

/-- RECONNECT (R122, R274). -/
def execReconnect (ops : List Byte) (s : State) : Out := offer ⟨0x02#8, ops⟩ s

/-- SCAN (R123, R275). -/
def execScan (ops : List Byte) (s : State) : Out := offer ⟨0x03#8, ops⟩ s

/-- DISCONNECT (R125, R273). -/
def execDisconnect (ops : List Byte) (s : State) : Out := offer ⟨0x04#8, ops⟩ s

/-- GET_CONFIG (R126, R304). -/
def execGetConfig (ops : List Byte) (s : State) : Out := offer ⟨0x05#8, ops⟩ s

/-- GET_STATUS (R126, R305). -/
def execGetStatus (ops : List Byte) (s : State) : Out := offer ⟨0x06#8, ops⟩ s

/-- SET_STIMULATION (R124, R306). -/
def execSetStimulation (ops : List Byte) (s : State) : Out := offer ⟨0x07#8, ops⟩ s

/-- SET_PHASES (R127, R309). -/
def execSetPhases (ops : List Byte) (s : State) : Out := offer ⟨0x08#8, ops⟩ s

/-- SET_ENABLE (R128, R310). -/
def execSetEnable (ops : List Byte) (s : State) : Out := offer ⟨0x09#8, ops⟩ s

/-- RESERVED_REQ, opcode 0x00 (R129, R311). -/
def execReservedReq00 (ops : List Byte) (s : State) : Out := offer ⟨0x00#8, ops⟩ s

/-- RESERVED_REQ, opcodes 0x0A-0x0B (R129, R311). -/
def execReservedReq0A (low : BitVec 1) (ops : List Byte) (s : State) : Out := offer ⟨0x0A#8 ||| low.setWidth 8, ops⟩ s

/-- RESERVED_REQ, opcodes 0x0C-0x0F (R129, R311). -/
def execReservedReq0C (low : BitVec 2) (ops : List Byte) (s : State) : Out := offer ⟨0x0C#8 ||| low.setWidth 8, ops⟩ s

/-- RESERVED_REQ, opcodes 0x10-0x1F (R129, R311). -/
def execReservedReq10 (low : BitVec 4) (ops : List Byte) (s : State) : Out := offer ⟨0x10#8 ||| low.setWidth 8, ops⟩ s

/-- RESERVED_REQ, opcodes 0x20-0x3F (R129, R311). -/
def execReservedReq20 (low : BitVec 5) (ops : List Byte) (s : State) : Out := offer ⟨0x20#8 ||| low.setWidth 8, ops⟩ s

/-- RESERVED_REQ, opcodes 0x40-0x7F (R129, R311). -/
def execReservedReq40 (low : BitVec 6) (ops : List Byte) (s : State) : Out := offer ⟨0x40#8 ||| low.setWidth 8, ops⟩ s

/-- RESERVED_REQ, opcodes 0x80-0xFF (R129, R311). -/
def execReservedReq80 (low : BitVec 7) (ops : List Byte) (s : State) : Out := offer ⟨0x80#8 ||| low.setWidth 8, ops⟩ s

/-- EXECUTE (R302). -/
def execExecute (d : Descriptor) (s : State) : Out := answer (execute d s) .unit

/-- PROTOCOL_SEND (R303): "within Execute; conn = Connected". -/
def execProtocolSend (c : Byte) (payload : List Byte) (s : State) : Out := answer (protocolSend c payload s) .unit

/-- REQUEST_ENGINE_STEPS (R300). -/
def execRequestEngineSteps (k : EngineStep) (s : State) : Out :=
  match k with
  | .take d => offer d s
  | .sendComplete => execSendComplete s
  | .scanComplete => execScanComplete s
  | .retire => execRetire s

end Sys2Proof.Machine
end

