-- ==== Sys2Proof/Machine/Reset.lean ====
section
/-!
DEFINITION. Sys2Proof/Machine/Reset.lean: the reset input (70_reset_and_hazards.md R370) and the meaning of the row
RESET.
-/

namespace Sys2Proof.Machine

/-- A lane after the reset input: every component at its reset value, storage bytes and what has left on TXD kept
(R370, R374: a frame being transmitted is cut off). -/
def Lane.afterReset (cut : Nat) (l : Lane) : Lane :=
  { Lane.reset with rb := l.rb.clear, txd := l.txd ++ l.cutTx cut }

/-- `Reset()` (R370). `now`, the parameters and the environment's side of the boundary are not reset. -/
def resetBlock (s : State) : State :=
  { s with
    conn := .disconnected, active := noPort,
    lanes := s.lanes.mapIdx (fun p l => l.afterReset (s.pin p).cut),
    probes := s.probes.map (fun _ => Probe.reset), scan := Scan.reset, req := Req.reset, ctlOut := [],
    regs := Regs.reset, diag := Diag.reset }

/-- RESET (R370). -/
def execReset (s : State) : Out := answer (resetBlock s) .unit

end Sys2Proof.Machine
end

