-- ==== Sys2Proof/Machine/Dispatch.lean ====
section
/-!
DEFINITION. Sys2Proof/Machine/Dispatch.lean: one arm per instruction, one direct call of its meaning.
-/

namespace Sys2Proof.Machine

def exec (i : Instr) (s : State) : Host.Outcome State Fault Refusal :=
  match i with
  | .manualConnect ops => Sys2Proof.Machine.execManualConnect ops s
  | .reconnect ops => Sys2Proof.Machine.execReconnect ops s
  | .scan ops => Sys2Proof.Machine.execScan ops s
  | .disconnect ops => Sys2Proof.Machine.execDisconnect ops s
  | .getConfig ops => Sys2Proof.Machine.execGetConfig ops s
  | .getStatus ops => Sys2Proof.Machine.execGetStatus ops s
  | .setStimulation ops => Sys2Proof.Machine.execSetStimulation ops s
  | .setPhases ops => Sys2Proof.Machine.execSetPhases ops s
  | .setEnable ops => Sys2Proof.Machine.execSetEnable ops s
  | .reservedReq00 ops => Sys2Proof.Machine.execReservedReq00 ops s
  | .reservedReq0A low ops => Sys2Proof.Machine.execReservedReq0A low ops s
  | .reservedReq0C low ops => Sys2Proof.Machine.execReservedReq0C low ops s
  | .reservedReq10 low ops => Sys2Proof.Machine.execReservedReq10 low ops s
  | .reservedReq20 low ops => Sys2Proof.Machine.execReservedReq20 low ops s
  | .reservedReq40 low ops => Sys2Proof.Machine.execReservedReq40 low ops s
  | .reservedReq80 low ops => Sys2Proof.Machine.execReservedReq80 low ops s
  | .regRead off => Sys2Proof.Machine.execRegRead off s
  | .regWrite off v => Sys2Proof.Machine.execRegWrite off v s
  | .frameEnableDisable p payload => Sys2Proof.Machine.execFrameEnableDisable p payload s
  | .framePing p payload => Sys2Proof.Machine.execFramePing p payload s
  | .frameGetConfig p payload => Sys2Proof.Machine.execFrameGetConfig p payload s
  | .frameGetStatus p payload => Sys2Proof.Machine.execFrameGetStatus p payload s
  | .frameSetStimulation p payload => Sys2Proof.Machine.execFrameSetStimulation p payload s
  | .frameSetPhases p payload => Sys2Proof.Machine.execFrameSetPhases p payload s
  | .frameAck p payload => Sys2Proof.Machine.execFrameAck p payload s
  | .frameNack p payload => Sys2Proof.Machine.execFrameNack p payload s
  | .framePingAck p payload => Sys2Proof.Machine.execFramePingAck p payload s
  | .frameReturnConfig p payload => Sys2Proof.Machine.execFrameReturnConfig p payload s
  | .frameReturnStatus p payload => Sys2Proof.Machine.execFrameReturnStatus p payload s
  | .frameSack p payload => Sys2Proof.Machine.execFrameSack p payload s
  | .frameError p payload => Sys2Proof.Machine.execFrameError p payload s
  | .frameOther p code payload => Sys2Proof.Machine.execFrameOther p code payload s
  | .rbWrite p data => Sys2Proof.Machine.execRbWrite p data s
  | .rbPeek p n => Sys2Proof.Machine.execRbPeek p n s
  | .rbPeekByte p k => Sys2Proof.Machine.execRbPeekByte p k s
  | .rbRead p n => Sys2Proof.Machine.execRbRead p n s
  | .rbSkip p n => Sys2Proof.Machine.execRbSkip p n s
  | .rbClear p => Sys2Proof.Machine.execRbClear p s
  | .csum c payload => Sys2Proof.Machine.execCsum c payload s
  | .encodeFrame c payload => Sys2Proof.Machine.execEncodeFrame c payload s
  | .parseAll p => Sys2Proof.Machine.execParseAll p s
  | .openLane p role baud => Sys2Proof.Machine.execOpenLane p role baud s
  | .arrive p b => Sys2Proof.Machine.execArrive p b s
  | .rxStep p => Sys2Proof.Machine.execRxStep p s
  | .transmit p bytes owner => Sys2Proof.Machine.execTransmit p bytes owner s
  | .txDone p => Sys2Proof.Machine.execTxDone p s
  | .writeTimeout p => Sys2Proof.Machine.execWriteTimeout p s
  | .stopLane p => Sys2Proof.Machine.execStopLane p s
  | .portFault p => Sys2Proof.Machine.execPortFault p s
  | .sendFrame p c payload owner => Sys2Proof.Machine.execSendFrame p c payload owner s
  | .startScan => Sys2Proof.Machine.execStartScan s
  | .probeOpen p => Sys2Proof.Machine.execProbeOpen p s
  | .probeTimer p => Sys2Proof.Machine.execProbeTimer p s
  | .probeFrame p f => Sys2Proof.Machine.execProbeFrame p f s
  | .arbitrate p => Sys2Proof.Machine.execArbitrate p s
  | .scanEnd => Sys2Proof.Machine.execScanEnd s
  | .teardownActive reason => Sys2Proof.Machine.execTeardownActive reason s
  | .execute d => Sys2Proof.Machine.execExecute d s
  | .protocolSend c payload => Sys2Proof.Machine.execProtocolSend c payload s
  | .inbound f => Sys2Proof.Machine.execInbound f s
  | .requestEngineSteps k => Sys2Proof.Machine.execRequestEngineSteps k s
  | .reset => Sys2Proof.Machine.execReset s

end Sys2Proof.Machine
end

