-- ==== Sys2Proof/Machine/Env.lean ====
section
/-!
DEFINITION. Sys2Proof/Machine/Env.lean: the steps of the environment that are no row of the opcode table: the host takes
an event (00_scope.md R7, 42_transport.md R226), time moves (R10), the platform changes a port's inputs (R9).
-/

namespace Sys2Proof.Machine

/-- The host takes an event. -/
def State.deliver (s : State) (e : Event) : State := { s with delivered := s.delivered ++ [e] }

/-- The host takes the head event of the control outbox (R48). -/
def takeCtl (s : State) : Out :=
  match s.ctlOut with
  | [] => waits s
  | e :: rest => answer (({ s with ctlOut := rest }).deliver e) (.events [e])

/-- `RxDeliver(p)` (R226): the host takes the head event of lane `p`'s RX engine. -/
def takeLane (p : Nat) (s : State) : Out :=
  match (s.lane p).rx with
  | .stopped | .idle => waits s
  | .delivering [] => waits s
  | .delivering (e :: rest) =>
    let rx := if rest = [] then RxState.idle else .delivering rest
    answer ((s.modLane p (fun l => { l with rx := rx })).deliver e) (.events [e])

/-- Some timer has expired and its expiry step has not been taken yet (R346). -/
def timerDue (s : State) : Bool :=
  (List.range s.lanes.length).any (fun p => writeTimeoutDue p s || probeTimerDue p s)

/-- `ADVANCE dt` (R10). A timer expires "at the first step at which now ≥ t0 + d", among the steps at that `now`,
so time does not move on past a due expiry (log entry 8). -/
def advance (dt : Nat) (s : State) : Out :=
  if timerDue s then waits s else answer { s with now := s.now + dt } .unit

/-- The platform changes port `p`'s inputs (R9). -/
def setPin (p : Nat) (pin : Pin) (s : State) : Out :=
  answer { s with pins := s.pins.modify p (fun _ => pin) } .unit

/-- One step of the environment. -/
def envStep (e : EnvStep) (s : State) : Out :=
  match e with
  | .hostTakesCtl => takeCtl s
  | .hostTakesLane p => takeLane p s
  | .advance dt => advance dt s
  | .setPin p pin => setPin p pin s

end Sys2Proof.Machine
end

