-- ==== Sys2Proof/Machine/Step.lean ====
section
/-!
DEFINITION. Sys2Proof/Machine/Step.lean: one step of the machine. The block runs no stored program (20_memory.md R81): each
step is one step of one agent (00_scope.md R5), and which one comes next is the environment's free choice (R10), read
from `inputs`. A step takes the next input, decodes it and runs it.
-/

namespace Sys2Proof.Machine

/-- One step. With no input left the block waits on its environment and nothing changes (R16, R371). -/
def step (s : State) : Host.Outcome State Fault Refusal :=
  match s.inputs with
  | [] => .next s
  | x :: rest =>
    match decodeInput s.params x with
    | .instr i => exec i { s with inputs := rest }
    | .noise p bytes => answer (rxLine p bytes { s with inputs := rest }) .unit
    | .env e => envStep e { s with inputs := rest }
    | .reject e => .refused (.notADescriptor e)

/-- `s` with a row of spec/opcode_table.json as the descriptor the host offers next (R6, R120). -/
def State.withFetchWord (s : State) (nbits w : Nat) : State :=
  { s with inputs := .request (tableDescriptor nbits w) :: s.inputs }

end Sys2Proof.Machine
end

