-- ==== Sys2Proof/Machine/Events.lean ====
section
/-!
DEFINITION. Sys2Proof/Machine/Events.lean: the bytes of the event records and of the result and reason codes
(30_encoding.md R130-R141).
-/

namespace Sys2Proof.Machine

/-- R130. -/
def Result.code : Result → Byte
  | .ok => 0x00#8
  | .notConnected => 0x01#8
  | .badState => 0x02#8
  | .phaseCap => 0x03#8
  | .badRequest => 0x04#8
  | .sendFail => 0x05#8
  | .openFail => 0x06#8
  | .noDevice => 0x07#8
  | .badOpcode => 0x08#8

/-- R133. -/
def reasonCode : Reason → Byte
  | .requested => 0x00#8
  | .ioFail => 0x01#8
  | .writeTimeout => 0x02#8
  | .openFail => 0x03#8
  | .noDevice => 0x04#8
  | .reconnect => 0x05#8

/-- R139. -/
def AckKind.code : AckKind → Byte
  | .ack => 0x00#8
  | .nack => 0x01#8
  | .sack => 0x02#8

/-- The event code of each record (R132-R141). -/
def Event.code : Event → Byte
  | .connected _ => 0x01#8
  | .disconnected _ => 0x02#8
  | .configReceived _ => 0x03#8
  | .statusReceived _ => 0x04#8
  | .stimulationSent _ => 0x05#8
  | .errorReceived _ => 0x06#8
  | .frameReceived _ => 0x07#8
  | .ackReceived _ => 0x08#8
  | .decodeFailed _ _ => 0x09#8
  | .reqDone _ _ => 0x0A#8

/-- The data bytes of each record (R132-R141). -/
def Event.data : Event → List Byte
  | .connected p => [BitVec.ofNat 8 p]
  | .disconnected r => [reasonCode r]
  | .configReceived cfg => cfg
  | .statusReceived sts => sts
  | .stimulationSent ops => ops
  | .errorReceived e => [e]
  | .frameReceived raw => raw
  | .ackReceived k => [k.code]
  | .decodeFailed code len => [code, len]
  | .reqDone op r => [op, r.code]

/-- The record as the event port carries it: `evcode:1 | elen:2 | data:elen` (R131). -/
def Event.record (e : Event) : List Byte := e.code :: (bytesLe16 e.data.length ++ e.data)

end Sys2Proof.Machine
end

