-- ==== Sys2Proof/Safety.lean ====
section
/-!
DEFINITION. Sys2Proof/Safety.lean: what a good state of the block is, in the terms of the spec's own invariants. Three
invariants, each kept by every step: the storage is in form (R40, R42), the lanes and the connection state agree
(R22, R23, R235, R260, R279), and the request engine and the control outbox agree (R44, R48, R300).
-/

namespace Sys2Proof.Machine

/-- R40: count at most the capacity, both cursors below it, the write cursor where the count says; and the storage
cells in canonical form, none beyond the capacity. -/
abbrev RingBuf.wf (cap : Nat) (b : RingBuf) : Prop :=
  b.count ≤ cap ∧ b.r < cap ∧ b.w < cap ∧ b.w = (b.r + b.count) % cap ∧ b.mem.wf ∧ ∀ c ∈ b.mem, c.1 < cap

/-- Storage in form: the parameters meet R3, every ring buffer R40, every staging FIFO R42, and the two LAST
registers hold their 21 and 37 bytes (R32, R33). -/
abbrev StorageInv (s : State) : Prop :=
  s.params.wf ∧
  (∀ l ∈ s.lanes, l.rb.wf s.params.rbCap ∧ l.stg.length ≤ s.params.rdChunk) ∧
  s.regs.lastConfig.length = 21 ∧ s.regs.lastStatus.length = 37

/-- The REQ_DONE records among some events. -/
def reqDones (evs : List Event) : Nat :=
  evs.countP (fun e => match e with | .reqDone _ _ => true | _ => false)

/-- The events lane `l`'s RX engine still holds (R226). -/
def Lane.rxEvents (l : Lane) : List Event :=
  match l.rx with
  | .delivering evs => evs
  | .stopped | .idle => []

/-- One lane in itself: its RX engine runs exactly while it is open (R235), it holds nothing while it is closed,
its write timer runs exactly while a frame is queued (R346), a probe lane holds at most its Ping, an RX engine
that is DELIVERING has an event to deliver (R226), and no REQ_DONE is among them (R344). -/
abbrev LaneInv (l : Lane) : Prop :=
  (l.rx = .stopped ↔ l.role = .closed) ∧
  (l.role = .closed → l.txq = [] ∧ l.stg = [] ∧ l.rb.count = 0) ∧
  (l.wt = true ↔ l.txq ≠ []) ∧
  (l.role = .probe → l.txq.length ≤ 1) ∧
  l.rx ≠ .delivering [] ∧ reqDones l.rxEvents = 0

/-- One lane beside its probe while a scan runs: the lane is a PROBE exactly while the probe is PINGING, WAITING
or OK, and closed otherwise (R265, R267). -/
abbrev ProbeLaneInv (l : Lane) (b : Probe) : Prop :=
  (l.role = .probe ∧ (b.st = .pinging ∨ b.st = .waiting ∨ b.st = .ok)) ∨
  (l.role = .closed ∧ (b.st = .idle ∨ b.st = .opening ∨ b.st = .fail))

/-- The lanes and the connection state agree: R22, R23, R43, R235 and the invariants of R260. -/
abbrev ConnInv (s : State) : Prop :=
  s.params.nPorts ≤ 32 ∧ s.lanes.length = s.params.nPorts ∧ s.probes.length = s.params.nPorts ∧
  (∀ p < s.params.nPorts, LaneInv (s.lane p)) ∧
  (∀ p < s.params.nPorts, ((s.probe p).timer ≠ none ↔ (s.probe p).st = .waiting)) ∧
  (s.scan.active = true ↔ s.conn = .scanning) ∧
  (s.conn = .connected → s.active < s.params.nPorts) ∧
  (s.conn ≠ .connected → s.active = noPort) ∧
  (s.conn = .disconnected → ∀ p < s.params.nPorts, (s.lane p).role = .closed) ∧
  (s.conn = .connected → ∀ p < s.params.nPorts, (s.lane p).role = if p = s.active then .active else .closed) ∧
  (s.conn ≠ .scanning → ∀ p < s.params.nPorts, (s.probe p).st = .idle) ∧
  (s.conn = .scanning → ∀ p < s.params.nPorts, ProbeLaneInv (s.lane p) (s.probe p)) ∧
  (s.conn = .scanning → s.scan.winner.all (fun w => w < s.params.nPorts) = true)

/-- How many frames of the request engine wait in the TX queues. -/
def requestFrames (s : State) : Nat :=
  (s.lanes.map (fun l => l.txq.countP (fun i => decide (i.owner = .request)))).sum

/-- 1 while connected: the connection may still end by itself and post one DISCONNECTED (R48). -/
def mayEnd (s : State) : Nat := if s.conn = .connected then 1 else 0

/-- How many events the outbox can hold, with the one a connection may still post, by the engine's phase (R48). -/
def outboxRoom (s : State) : Nat :=
  match s.req.phase with
  | .idle | .validate | .send => 1
  | .scan => if s.conn = .scanning then 1 else 3
  | .done => 4

/-- The request engine and the control outbox agree (R44, R48, R300): the engine is busy exactly outside phase IDLE; VALIDATE
holds only inside a step; a scan runs only in phase SCAN and one that has ended has a result; a frame of the engine is
queued exactly while `req.send` is PENDING; and the outbox never holds more than four events. -/
abbrev EngineInv (s : State) : Prop :=
  (s.req.busy = false ↔ s.req.phase = .idle) ∧ s.req.phase ≠ .validate ∧
  (s.conn = .scanning → s.req.phase = .scan) ∧
  (s.req.phase = .scan → s.conn ≠ .scanning → s.scan.result ≠ .unset) ∧
  (s.req.phase = .send ↔ s.req.send ≠ .unset) ∧
  requestFrames s = (if s.req.send = .pending then 1 else 0) ∧
  s.ctlOut.length + mayEnd s ≤ outboxRoom s

/-! ### Runs of one operation, in the terms the statements use -/

/-- What a sequence of Reads returns, one after the other (R157). -/
def readSeq (cap : Nat) : List Nat → RingBuf → List Byte
  | [], _ => []
  | n :: ns, b => (b.read cap n).2 ++ readSeq cap ns (b.read cap n).1

/-- Each chunk written to lane `p`'s ring buffer and parsed, one after the other, with the frames emitted (R198, R199). -/
def feedLane (p : Nat) : List (List Byte) → State → State × List Frame
  | [], s => (s, [])
  | c :: cs, s =>
    let (t, out) := parseAll p (rbWrite p c s)
    let (u, more) := feedLane p cs t
    (u, out ++ more)

/-- The events an instruction has returned in `ret`. -/
def Ret.eventList : Ret → List Event
  | .events evs => evs
  | _ => []

/-- The instruction `row f` run for each frame in order (R226), with the events they return, in order; it ends at a
stop. -/
def execEach (row : Frame → Instr) : List Frame → State → State × List Event
  | [], s => (s, [])
  | f :: fs, s =>
    match exec (row f) s with
    | .next t =>
      let (u, more) := execEach row fs t
      (u, t.ret.eventList ++ more)
    | .fault _ => (s, [])
    | .refused _ => (s, [])

end Sys2Proof.Machine
end

