-- ==== Sys2Proof/Certificates/Slice0/Obligations.lean ====
section
/-!
DEFINITION. Sys2Proof/Certificates/Slice0/Obligations.lean: what the provers are asked to prove. Each statement's docstring
names the rules it formalises. `s.setRet r` is `s` with the model's own answer field set, and nothing else changed; the
other `State.mod…` and `State.set…` change the one field their name says. A statement's `∃ t` names the next state; a field
of `t` that it sets equal to itself in `t = { s with … }` is said further in the clauses that follow.
-/

open Sys2Proof Sys2Proof.Machine

/-! ### Encodings -/

/-- R120-R129, R100-R106, R142: every input that encodes a well-formed instruction decodes to it, with every operand. -/
def Obligations.DecodeOfEncodeIsTheInstruction : Prop :=
  ∀ (pr : Params) (i : Instr) (x : Input), pr.wf → i.wf pr = true → encode pr i = some x →
    decodeInput pr x = .instr i

/-- R104, R110-R114: the bytes that a command frame puts on its line decode to it. -/
def Obligations.DecodeOfCommandFrameBytes : Prop :=
  ∀ (pr : Params) (i : Instr) (p : Nat) (b : List Byte), pr.wf → i.wf pr = true → encodeTx pr i = some (p, b) →
    decodeTx pr p b = .ok i

/-- R120, R100: bytes that decode are the encoding of what they decode to, so no bit of them is dropped. -/
def Obligations.DecodedBytesAreTheirEncoding : Prop :=
  (∀ (d : List Byte) (i : Instr), decodeRequest d = .ok i →
    ∃ op ops, requestParts i = some (op, ops) ∧ ops.length ≤ 65535 ∧ descriptorBytes op ops = d) ∧
  (∀ (b : List Byte) (c : Byte) (payload : List Byte), decodeFrame b = .ok (c, payload) →
    payload.length ≤ 255 ∧ frameBytes c payload = b)

/-- R121-R129, R142: the words of the table's rows, and whole descriptors, decode to the rows. -/
def Obligations.WordsOfTheRowsDecode : Prop :=
  decodeTableWord 8 0x01 = some (.manualConnect []) ∧ decodeTableWord 8 0x02 = some (.reconnect []) ∧
  decodeTableWord 8 0x03 = some (.scan []) ∧ decodeTableWord 8 0x04 = some (.disconnect []) ∧
  decodeTableWord 8 0x05 = some (.getConfig []) ∧ decodeTableWord 8 0x06 = some (.getStatus []) ∧
  decodeTableWord 8 0x07 = some (.setStimulation []) ∧ decodeTableWord 8 0x08 = some (.setPhases []) ∧
  decodeTableWord 8 0x09 = some (.setEnable []) ∧ decodeTableWord 8 0x00 = some (.reservedReq00 []) ∧
  decodeTableWord 8 0x0B = some (.reservedReq0A 1 []) ∧ decodeTableWord 8 0xFF = some (.reservedReq80 0x7F []) ∧
  decodeRequest [0x01, 0x05, 0x00, 0x02, 0x00, 0xC2, 0x01, 0x00] = .ok (.manualConnect [0x02, 0x00, 0xC2, 0x01, 0x00]) ∧
  decodeRequest [0x09, 0x01, 0x00, 0x01] = .ok (.setEnable [0x01]) ∧
  decodeRequest [0x09, 0x01, 0x00] = .error .badOlen

/-! ### The step -/

/-- R5, R16, R371: a step takes the next input and runs the instruction it decodes to; an environment step or raw
bytes on a line run as such; with no input left nothing changes. The model's choice: that the inputs are a list in
State (log entry 3), and that bytes at the request port that are no descriptor are refused by name (log entry 15). -/
def Obligations.StepRunsTheDecodedInstruction : Prop :=
  (∀ (s : State) (x : Input) (rest : List Input), s.inputs = x :: rest →
    (∀ i, decodeInput s.params x = .instr i → step s = exec i { s with inputs := rest }) ∧
    (∀ e, decodeInput s.params x = .env e → step s = envStep e { s with inputs := rest }) ∧
    (∀ p b, decodeInput s.params x = .noise p b →
      step s = .next ((rxLine p b { s with inputs := rest }).setRet .unit)) ∧
    (∀ e, decodeInput s.params x = .reject e → step s = .refused (.notADescriptor e))) ∧
  (∀ s : State, s.inputs = [] → step s = .next s)

/-- R16: every step yields a next state, whatever the state and the input, if what stands at the request port is a
descriptor. -/
def Obligations.EveryStepAnswersANextState : Prop :=
  ∀ s : State,
    (∀ d rest, s.inputs = .request d :: rest → ∃ op ops, ops.length ≤ 65535 ∧ d = descriptorBytes op ops) →
    ∃ t, step s = .next t

/-! ### Register bus -/

/-- R76, R142, R143, R30, R32, R33, R72: what each mapped offset reads, bits [1:0] of the offset ignored (R74); a read
changes nothing. RB_CAP and RB_COUNT show their numbers modulo 2^32: the model's choice (log entry 17). -/
def Obligations.RegisterReadMap : Prop :=
  ∀ (s : State) (off : Byte),
    (∀ (a : Nat) (w : Word), (a, w) ∈
      [(0x00, stateWord s), (0x04, s.regs.baud), (0x08, s.regs.readTo), (0x0C, s.regs.writeTo), (0x10, s.regs.probeTo),
       (0x14, BitVec.ofNat 32 s.params.rbCap),
       (0x18, if s.conn = .connected then BitVec.ofNat 32 (s.lane s.active).rb.count else 0),
       (0x1C, BitVec.ofNat 32 s.params.nPorts), (0x20, s.regs.scanEligible), (0x24, s.regs.scanHits),
       (0x28, s.diag.framesOk), (0x2C, s.diag.hdrSlip), (0x30, s.diag.tailFail), (0x34, s.diag.csumFail),
       (0x38, s.diag.ovfClear), (0x3C, s.diag.rxOverrun)] →
      off.toNat / 4 * 4 = a → exec (.regRead off) s = .next (s.setRet (.word w))) ∧
    (∀ k, k < 6 → off.toNat / 4 * 4 = 0x40 + 4 * k →
      exec (.regRead off) s = .next (s.setRet (.word
        (byteAt s.regs.lastConfig (4 * k + 3) ++ byteAt s.regs.lastConfig (4 * k + 2) ++
         byteAt s.regs.lastConfig (4 * k + 1) ++ byteAt s.regs.lastConfig (4 * k))))) ∧
    (∀ k, k < 10 → off.toNat / 4 * 4 = 0x60 + 4 * k →
      exec (.regRead off) s = .next (s.setRet (.word
        (byteAt s.regs.lastStatus (4 * k + 3) ++ byteAt s.regs.lastStatus (4 * k + 2) ++
         byteAt s.regs.lastStatus (4 * k + 1) ++ byteAt s.regs.lastStatus (4 * k)))))

/-- R144: an unmapped offset reads 0, and a write to an unmapped or read-only one has no effect. -/
def Obligations.UnmappedAndReadOnlyOffsets : Prop :=
  ∀ (s : State) (off : Byte) (v : Word),
    ((0x58 ≤ off.toNat ∧ off.toNat < 0x60) ∨ 0x88 ≤ off.toNat →
      exec (.regRead off) s = .next (s.setRet (.word 0))) ∧
    (off.toNat < 0x04 ∨ 0x14 ≤ off.toNat → exec (.regWrite off v) s = .next (s.setRet .unit))

/-- R145: a write to BAUD, READ_TO, WRITE_TO or PROBE_TO stores all 32 bits, changes nothing else (no open lane and no
running scan), and is read back. -/
def Obligations.WritableRegistersStoreEveryValue : Prop :=
  ∀ (s : State) (off : Byte) (v : Word),
    (off.toNat / 4 * 4 = 0x04 →
      exec (.regWrite off v) s = .next ((s.modRegs (fun g => { g with baud := v })).setRet .unit)) ∧
    (off.toNat / 4 * 4 = 0x08 →
      exec (.regWrite off v) s = .next ((s.modRegs (fun g => { g with readTo := v })).setRet .unit)) ∧
    (off.toNat / 4 * 4 = 0x0C →
      exec (.regWrite off v) s = .next ((s.modRegs (fun g => { g with writeTo := v })).setRet .unit)) ∧
    (off.toNat / 4 * 4 = 0x10 →
      exec (.regWrite off v) s = .next ((s.modRegs (fun g => { g with probeTo := v })).setRet .unit)) ∧
    (0x04 ≤ off.toNat → off.toNat < 0x14 → ∃ t, exec (.regWrite off v) s = .next t ∧
      exec (.regRead off) t = .next (t.setRet (.word v)))

/-- R24, R22: the fields of STATE; the reserved bits read 0 and CONN is never 3. -/
def Obligations.StateWordFields : Prop :=
  ∀ s : State, ∃ w, exec (.regRead 0x00) s = .next (s.setRet (.word w)) ∧
    w.extractLsb' 0 2 = (match s.conn with | .disconnected => 0#2 | .scanning => 1#2 | .connected => 2#2) ∧
    w.extractLsb' 2 6 = 0 ∧ w.extractLsb' 8 8 = BitVec.ofNat 8 s.active ∧
    w.getLsbD 16 = s.regs.cfgValid ∧ w.getLsbD 17 = s.regs.stsValid ∧ w.getLsbD 18 = s.req.busy ∧
    w.extractLsb' 19 13 = 0

/-! ### Ring buffer -/

/-- R151, R159, R39: a Write that fits appends; one that does not clears first, counts, and under the policy stores
its chunk or nothing. Everything else is as before, every storage byte that is not stored to among it. -/
def Obligations.RingBufferWrite : Prop :=
  ∀ (s : State) (p : Nat) (data : List Byte), p < s.lanes.length → (s.lane p).rb.wf s.params.rbCap →
    ∃ t, exec (.rbWrite p data) s = .next t ∧
      t = { s with lanes := t.lanes, diag := t.diag, ret := .unit } ∧ t.lanes.length = s.lanes.length ∧
      (∀ q, q ≠ p → t.lane q = s.lane q) ∧ t.lane p = { s.lane p with rb := (t.lane p).rb } ∧
      (t.lane p).rb.wf s.params.rbCap ∧
      (data.length ≤ s.params.rbCap - (s.lane p).rb.count →
        (t.lane p).rb.content s.params.rbCap = (s.lane p).rb.content s.params.rbCap ++ data ∧ t.diag = s.diag ∧
        (t.lane p).rb.r = (s.lane p).rb.r ∧ ∀ a, (∀ i, i < data.length → a ≠ ((s.lane p).rb.w + i) % s.params.rbCap) →
          (t.lane p).rb.mem.read a = (s.lane p).rb.mem.read a) ∧
      (s.params.rbCap - (s.lane p).rb.count < data.length →
        (t.lane p).rb.content s.params.rbCap =
          (if s.params.ovfPolicy = .clearAndDrop ∨ s.params.rbCap < data.length then [] else data) ∧
        t.diag = { s.diag with ovfClear := s.diag.ovfClear + 1 } ∧ (t.lane p).rb.r = 0 ∧
        ∀ a, (if s.params.ovfPolicy = .clearAndDrop ∨ s.params.rbCap < data.length then 0 else data.length) ≤ a →
          (t.lane p).rb.mem.read a = (s.lane p).rb.mem.read a)

/-- R157: writes that do not overflow, then reads of the same total length, return the content and the written bytes
in order. -/
def Obligations.RingBufferIsFifo : Prop :=
  ∀ (cap : Nat) (pol : OvfPolicy) (b : RingBuf) (ds : List (List Byte)) (ns : List Nat), b.wf cap →
    b.count + ds.flatten.length ≤ cap → ns.sum = b.count + ds.flatten.length →
    (ds.foldl (fun x d => (x.write cap pol d).1) b).content cap = b.content cap ++ ds.flatten ∧
    readSeq cap ns (ds.foldl (fun x d => (x.write cap pol d).1) b) = b.content cap ++ ds.flatten

/-- R152, R153, R158: Peek(n) returns the first min(n, count) occupied bytes, PeekByte(i) the byte at offset i or
0x00, and neither changes anything. -/
def Obligations.PeekReturnsWithoutConsuming : Prop :=
  ∀ (s : State) (p n : Nat),
    exec (.rbPeek p n) s = .next (s.setRet (.bytes (((s.lane p).rb.content s.params.rbCap).take n))) ∧
    exec (.rbPeekByte p n) s = .next (s.setRet (.byte (((s.lane p).rb.content s.params.rbCap).getD n 0x00#8)))

/-- R154, R155, R156, R158: Read(n) returns the first min(n, count) occupied bytes and consumes them; Skip(n) leaves
the same cursors; Clear leaves an empty buffer. Storage bytes, counters and every other lane are as before. -/
def Obligations.ReadSkipAndClear : Prop :=
  ∀ (s : State) (p n : Nat), p < s.lanes.length →
    ∃ b : RingBuf, b.content s.params.rbCap = ((s.lane p).rb.content s.params.rbCap).drop n ∧
      b.mem = (s.lane p).rb.mem ∧ b.w = (s.lane p).rb.w ∧ b.count = (s.lane p).rb.count - n ∧
      b.r = ((s.lane p).rb.r + min n (s.lane p).rb.count) % s.params.rbCap ∧
      exec (.rbRead p n) s = .next ((s.modLane p (fun l => { l with rb := b })).setRet
        (.bytes (((s.lane p).rb.content s.params.rbCap).take n))) ∧
      exec (.rbSkip p n) s = .next ((s.modLane p (fun l => { l with rb := b })).setRet .unit) ∧
      exec (.rbClear p) s = .next ((s.modLane p (fun l => { l with rb :=
        { mem := (s.lane p).rb.mem, r := 0, w := 0, count := 0 } })).setRet .unit)

/-! ### Frame codec -/

/-- R180, R103: the checksum is the sum modulo 256 and does not depend on the order of the payload bytes. -/
def Obligations.ChecksumIsTheModularSum : Prop :=
  ∀ (s : State) (c : Byte) (payload : List Byte),
    (∃ v : Byte, exec (.csum c payload) s = .next (s.setRet (.byte v)) ∧
      v.toNat = (c.toNat + payload.length + (payload.map BitVec.toNat).sum) % 256) ∧
    exec (.csum c []) s = .next (s.setRet (.byte c)) ∧
    (∀ q : List Byte, payload.Perm q → exec (.csum c q) s = exec (.csum c payload) s)

/-- R103, R200: changing the code, or one payload byte, to a different value changes the checksum. -/
def Obligations.ChecksumDetectsOneByte : Prop :=
  ∀ (c : Byte) (payload : List Byte),
    (∀ c' : Byte, c' ≠ c → csum c' payload ≠ csum c payload) ∧
    (∀ (i : Nat) (b : Byte), i < payload.length → byteAt payload i ≠ b →
      csum c (payload.set i b) ≠ csum c payload)

/-- R181, R182, R100, R101: Encode lays out header, code, length, payload, checksum and tail; a payload over 255 bytes
is REFUSED and a send of it fails with nothing transmitted. -/
def Obligations.EncodeLaysOutTheFrame : Prop :=
  ∀ (s : State) (p : Nat) (c : Byte) (payload : List Byte) (o : Owner),
    (payload.length ≤ 255 → ∃ sum : Byte,
      exec (.csum c payload) s = .next (s.setRet (.byte sum)) ∧
      exec (.encodeFrame c payload) s = .next (s.setRet (.bytes
        ([0xAA#8, 0x55#8, c, BitVec.ofNat 8 payload.length] ++ payload ++ [sum, 0x0D#8, 0x0A#8])))) ∧
    (255 < payload.length →
      exec (.encodeFrame c payload) s = .next (s.setRet .encodeRefused) ∧
      exec (.sendFrame p c payload o) s = .next (s.setRet (.send .fail)))

/-- R191, R190, R196: every frame a pass emits is whole, its raw bytes are its encoding, and the raw bytes of the
frames, in order, are bytes of the buffer that no two frames share. A pass changes the lane's ring buffer and the
counters only. -/
def Obligations.EmittedFramesAreWhole : Prop :=
  ∀ (s : State) (p : Nat), ∃ t fs, exec (.parseAll p) s = .next t ∧ t.ret = .frames fs ∧
    t = { s with lanes := t.lanes, diag := t.diag, ret := t.ret } ∧ (∀ q, q ≠ p → t.lane q = s.lane q) ∧
    t.lane p = { s.lane p with rb := (t.lane p).rb } ∧
    (∀ f ∈ fs, f.payload.length ≤ 255 ∧ f.raw = frameBytes f.code f.payload ∧ byteAt f.raw 2 = f.code ∧
      byteAt f.raw 3 = BitVec.ofNat 8 f.payload.length ∧ slice f.raw 4 (4 + f.payload.length) = f.payload) ∧
    (fs.map (fun f => f.raw)).flatten.Sublist ((s.lane p).rb.content s.params.rbCap) ∧
    t.diag.framesOk = s.diag.framesOk + BitVec.ofNat 32 fs.length

/-- R195: a pass ends with at most 6 bytes buffered, or at a header whose frame is not all there; a second pass, or an
empty chunk, changes nothing. -/
def Obligations.ParserEndStateIsStable : Prop :=
  ∀ (s : State) (p : Nat), p < s.lanes.length → ∃ t, exec (.parseAll p) s = .next t ∧
    ((t.lane p).rb.count ≤ 6 ∨
      (byteAt ((t.lane p).rb.content s.params.rbCap) 0 = 0xAA#8 ∧
       byteAt ((t.lane p).rb.content s.params.rbCap) 1 = 0x55#8 ∧
       (t.lane p).rb.count < 7 + (byteAt ((t.lane p).rb.content s.params.rbCap) 3).toNat)) ∧
    exec (.parseAll p) t = .next (t.setRet (.frames [])) ∧
    exec (.rbWrite p []) t = .next (t.setRet .unit)

/-- R197: the bytes of a frame, written to an empty buffer with room for them, are parsed to exactly that frame, leave
the buffer empty and count once; where the capacity is below the frame's length the Write overflows and no frame is
emitted. -/
def Obligations.FrameRoundTrip : Prop :=
  ∀ (s : State) (p : Nat) (c : Byte) (payload : List Byte), p < s.lanes.length → (s.lane p).rb.wf s.params.rbCap →
    (s.lane p).rb.count = 0 → payload.length ≤ 255 →
    ∃ t u, exec (.rbWrite p (frameBytes c payload)) s = .next t ∧ exec (.parseAll p) t = .next u ∧
      (u.lane p).rb.count = 0 ∧
      (7 + payload.length ≤ s.params.rbCap → u.ret = .frames [⟨c, payload, frameBytes c payload⟩] ∧
        u.diag = { s.diag with framesOk := s.diag.framesOk + 1 }) ∧
      (s.params.rbCap < 7 + payload.length → u.ret = .frames [] ∧
        u.diag = { s.diag with ovfClear := s.diag.ovfClear + 1 })

/-- R198: a frame split anywhere, into any number of chunks, gives nothing before its last chunk and exactly one frame
with it. -/
def Obligations.SplitFrameIsEmittedOnce : Prop :=
  ∀ (s : State) (p : Nat) (c : Byte) (payload : List Byte) (ds : List (List Byte)) (last : List Byte),
    p < s.lanes.length → (s.lane p).rb.wf s.params.rbCap → (s.lane p).rb.count = 0 → payload.length ≤ 255 →
    7 + payload.length ≤ s.params.rbCap → last ≠ [] → ds.flatten ++ last = frameBytes c payload →
    (feedLane p ds s).2 = [] ∧ (feedLane p ds s).1.diag = s.diag ∧
    ((feedLane p ds s).1.lane p).rb.content s.params.rbCap = ds.flatten ∧
    (feedLane p [last] (feedLane p ds s).1).2 = [⟨c, payload, frameBytes c payload⟩] ∧
    ((feedLane p [last] (feedLane p ds s).1).1.lane p).rb.count = 0

/-- R199, R186: garbage that holds no 0xAA 0x55 pair, then a frame, in any chunks of which none overflows the buffer, gives
exactly the frame; every garbage byte is discarded on the header check. R186, R188, R189, R36-R38, R201: a pass over a
buffer whose first two bytes are no header, or that starts with a whole candidate whose tail, or (tail right) whose
checksum, is wrong, discards one byte, counts it in HDR_SLIP, TAIL_FAIL or CSUM_FAIL, and goes on as a pass over the
rest. -/
def Obligations.GarbageThenFrame : Prop :=
  (∀ (s : State) (p : Nat) (c : Byte) (payload garbage : List Byte) (ds : List (List Byte)),
    p < s.lanes.length → (s.lane p).rb.wf s.params.rbCap → (s.lane p).rb.count = 0 → payload.length ≤ 255 →
    ds.flatten = garbage ++ frameBytes c payload →
    (∀ pre d post, ds = pre ++ d :: post →
      ((feedLane p pre s).1.lane p).rb.count + d.length ≤ s.params.rbCap) →
    (∀ i, i + 1 < garbage.length → ¬ (byteAt garbage i = 0xAA#8 ∧ byteAt garbage (i + 1) = 0x55#8)) →
    (feedLane p ds s).2 = [⟨c, payload, frameBytes c payload⟩] ∧ ((feedLane p ds s).1.lane p).rb.count = 0 ∧
    (feedLane p ds s).1.diag = { s.diag with hdrSlip := s.diag.hdrSlip + BitVec.ofNat 32 garbage.length,
                                             framesOk := s.diag.framesOk + 1 }) ∧
  (∀ (s : State) (p : Nat) (d : Diag), p < s.lanes.length →
    let x := (s.lane p).rb.content s.params.rbCap
    let len := (byteAt x 3).toNat
    let header := byteAt x 0 = 0xAA#8 ∧ byteAt x 1 = 0x55#8
    let tail := byteAt x (5 + len) = 0x0D#8 ∧ byteAt x (6 + len) = 0x0A#8
    ((7 ≤ x.length ∧ ¬ header ∧ d = { s.diag with hdrSlip := s.diag.hdrSlip + 1 }) ∨
     (7 + len ≤ x.length ∧ header ∧ ¬ tail ∧ d = { s.diag with tailFail := s.diag.tailFail + 1 }) ∨
     (7 + len ≤ x.length ∧ header ∧ tail ∧ byteAt x (4 + len) ≠ csum (byteAt x 2) (slice x 4 (4 + len)) ∧
       d = { s.diag with csumFail := s.diag.csumFail + 1 })) →
    ∃ u t, exec (.rbSkip p 1) s = .next u ∧ (u.lane p).rb.content s.params.rbCap = x.drop 1 ∧
      exec (.parseAll p) (u.setDiag d) = .next t ∧ exec (.parseAll p) s = .next t)

/-! ### Inbound frames -/

/-- R320-R325, R34, R326: the events of a frame on the active lane, FRAME_RECEIVED first, and the registers it
changes; a payload shorter than its schema changes no register. -/
def Obligations.InboundEvents : Prop :=
  ∀ (s : State) (f : Frame), s.params.wf →
    (f.code = s.params.code.returnConfig → 21 ≤ f.payload.length →
      exec (.inbound f) s = .next ((s.modRegs (fun g => { g with lastConfig := f.payload.take 21, cfgValid := true })).setRet
        (.events [.frameReceived f.raw, .configReceived (f.payload.take 21)]))) ∧
    (f.code = s.params.code.returnStatus → 37 ≤ f.payload.length →
      exec (.inbound f) s = .next ((s.modRegs (fun g => { g with lastStatus := f.payload.take 37, stsValid := true })).setRet
        (.events [.frameReceived f.raw, .statusReceived (f.payload.take 37)]))) ∧
    (((f.code = s.params.code.returnConfig ∧ f.payload.length < 21) ∨
      (f.code = s.params.code.returnStatus ∧ f.payload.length < 37) ∨
      (f.code = s.params.code.error ∧ f.payload = [])) →
      exec (.inbound f) s = .next (s.setRet
        (.events [.frameReceived f.raw, .decodeFailed f.code (BitVec.ofNat 8 f.payload.length)]))) ∧
    (∀ e rest, f.code = s.params.code.error → f.payload = e :: rest →
      exec (.inbound f) s = .next (s.setRet (.events [.frameReceived f.raw, .errorReceived e]))) ∧
    (∀ k, (f.code, k) ∈ [(s.params.code.ack, AckKind.ack), (s.params.code.nack, .nack), (s.params.code.sack, .sack)] →
      exec (.inbound f) s = .next (s.setRet (.events [.frameReceived f.raw, .ackReceived k]))) ∧
    (f.code = s.params.code.pingAck ∨ f.code ∉ s.params.code.responses →
      exec (.inbound f) s = .next (s.setRet (.events [.frameReceived f.raw])))

/-- R226, R320, R105, R106: a whole frame of any row on the receive line of an idle, empty active lane is parsed once
and delivers what Inbound gives it. What a FRAME row runs: log entry 9. -/
def Obligations.FrameOnTheActiveLane : Prop :=
  ∀ (s : State) (i : Instr) (p : Nat) (c : Byte) (payload : List Byte), rxParts s.params.code i = some (p, c, payload) →
    p < s.lanes.length → (s.lane p).role = .active → (s.lane p).rx = .idle → (s.lane p).stg = [] →
    (s.lane p).rb.wf s.params.rbCap → (s.lane p).rb.count = 0 → payload.length ≤ 255 →
    7 + payload.length ≤ s.params.rbCap → 7 + payload.length ≤ s.params.rdChunk →
    ∃ t u evs, exec i s = .next t ∧ exec (.inbound ⟨c, payload, frameBytes c payload⟩) s = .next u ∧
      u.ret = .events evs ∧ t = { s with lanes := t.lanes, regs := u.regs, ret := .unit,
                                         diag := { s.diag with framesOk := s.diag.framesOk + 1 } } ∧
      (∀ q, q ≠ p → t.lane q = s.lane q) ∧
      t.lane p = { s.lane p with rx := .delivering evs, rb := (t.lane p).rb } ∧ (t.lane p).rb.count = 0

/-- R223, R226, R384: a frame on the receive line of a closed lane is lost; one on a lane that is still delivering
events is staged as far as the staging FIFO has room, and what does not fit is dropped and counted. What a FRAME row
runs: log entry 9. -/
def Obligations.FrameOnAClosedOrDeliveringLane : Prop :=
  ∀ (s : State) (i : Instr) (p : Nat) (c : Byte) (payload : List Byte), rxParts s.params.code i = some (p, c, payload) →
    p < s.lanes.length → (s.lane p).stg.length ≤ s.params.rdChunk → payload.length ≤ 255 →
    ((s.lane p).role = .closed → (s.lane p).rx = .stopped → exec i s = .next (s.setRet .unit)) ∧
    (∀ evs, (s.lane p).role ≠ .closed → (s.lane p).rx = .delivering evs →
      let room := s.params.rdChunk - (s.lane p).stg.length
      let lost := BitVec.ofNat 32 (7 + payload.length - room)
      exec i s = .next (((s.modLane p (fun l => { l with stg := l.stg ++ (frameBytes c payload).take room })).setDiag
        { s.diag with rxOverrun := s.diag.rxOverrun + lost }).setRet .unit))

/-- R267, R268, R270, R271: a Ping_ACK whose first payload byte is the probe's nonce, on an idle, empty probe lane,
makes the probe succeed; any other frame there is dropped. No event comes of it. What a FRAME row runs: log entry 9.
-/
def Obligations.PingAckOnAProbeLane : Prop :=
  ∀ (s : State) (i : Instr) (p : Nat) (c : Byte) (payload : List Byte), rxParts s.params.code i = some (p, c, payload) →
    p < s.lanes.length → p < s.probes.length → (s.lane p).role = .probe → (s.lane p).rx = .idle → (s.lane p).stg = [] →
    (s.lane p).rb.wf s.params.rbCap → (s.lane p).rb.count = 0 → payload.length ≤ 255 →
    7 + payload.length ≤ s.params.rbCap → 7 + payload.length ≤ s.params.rdChunk →
    ∃ t, exec i s = .next t ∧ (∀ q, q ≠ p → t.lane q = s.lane q) ∧
      t.lane p = { s.lane p with rb := (t.lane p).rb } ∧ (t.lane p).rb.count = 0 ∧
      t.diag = { s.diag with framesOk := s.diag.framesOk + 1 } ∧
      (c = s.params.code.pingAck → payload.head? = some (s.probe p).nonce →
        ((s.probe p).st = .pinging ∨ (s.probe p).st = .waiting) →
        t = { s with lanes := t.lanes, diag := t.diag, ret := .unit, probes := t.probes, scan := t.scan,
                     regs := { s.regs with scanHits := s.regs.scanHits ||| (1#32 <<< p) } } ∧
        t.probe p = { s.probe p with st := .ok, timer := none } ∧ (∀ q, q ≠ p → t.probe q = s.probe q) ∧
        t.scan = (if s.scan.winner = none ∨ (s.scan.tWin = s.now ∧ ∃ w, s.scan.winner = some w ∧ p < w)
                  then { s.scan with winner := some p, tWin := s.now } else s.scan)) ∧
      ((c ≠ s.params.code.pingAck ∨ payload.head? ≠ some (s.probe p).nonce ∨
          ((s.probe p).st ≠ .pinging ∧ (s.probe p).st ≠ .waiting)) →
        t = { s with lanes := t.lanes, diag := t.diag, ret := .unit })

/-! ### Serial lanes -/

/-- R222: OpenLane fails at baud 0 or when the platform says no, and then changes nothing; else it opens the lane,
latches READ_TO and WRITE_TO, and empties the lane. R222 opens a CLOSED lane, as PROBE or ACTIVE; that the open of an
open lane, or with role CLOSED, does the same is the model's choice (log entry 12). -/
def Obligations.OpenLaneLatchesAndEmpties : Prop :=
  ∀ (s : State) (p : Nat) (role : Role) (baud : Word),
    (baud = 0 ∨ (s.pin p).openOk = false → exec (.openLane p role baud) s = .next (s.setRet (.bool false))) ∧
    (baud ≠ 0 → (s.pin p).openOk = true → exec (.openLane p role baud) s = .next ((s.modLane p (fun l =>
      { l with role := role, baud := baud, readTo := s.regs.readTo, writeTo := s.regs.writeTo,
               rb := { l.rb with r := 0, w := 0, count := 0 }, stg := [], txq := [], wt := false, rx := .idle })).setRet
      (.bool true)))

/-- R223: a byte on a closed lane is lost, on a full staging FIFO it is dropped and counted, else it is staged. -/
def Obligations.ByteArrival : Prop :=
  ∀ (s : State) (p : Nat) (b : Byte), p < s.lanes.length → (s.lane p).stg.length ≤ s.params.rdChunk →
    ((s.lane p).role = .closed → exec (.arrive p b) s = .next (s.setRet .unit)) ∧
    ((s.lane p).role ≠ .closed → (s.lane p).stg.length = s.params.rdChunk →
      exec (.arrive p b) s = .next
        ((s.setDiag { s.diag with rxOverrun := s.diag.rxOverrun + 1 }).setRet .unit)) ∧
    ((s.lane p).role ≠ .closed → (s.lane p).stg.length < s.params.rdChunk →
      exec (.arrive p b) s = .next ((s.modLane p (fun l => { l with stg := l.stg ++ [b] })).setRet .unit))

/-- R224, R226, R234: an enabled RX step takes the oldest k staged bytes, 1 ≤ k ≤ |stg|, writes them, parses, and runs
INBOUND (active lane) or PROBE_FRAME (probe lane) for each frame in stream order; the events of an active lane are
held for the host. It changes no other lane, on an active lane nothing of the scan, and on a probe lane no register but
SCAN_HITS. A step that is not enabled answers `waits`: the model's choice (log entry 7). -/
def Obligations.RxStepTakesOneChunk : Prop :=
  ∀ (s : State) (p : Nat), p < s.lanes.length →
    ((s.lane p).rx = .idle → (s.lane p).stg ≠ [] → ∃ t k u fs, exec (.rxStep p) s = .next t ∧
      1 ≤ k ∧ k ≤ (s.lane p).stg.length ∧ feedLane p [(s.lane p).stg.take k] s = (u, fs) ∧
      t = { s with lanes := t.lanes, diag := u.diag, regs := t.regs, probes := t.probes, scan := t.scan, ret := .unit } ∧
      (∀ q, q ≠ p → t.lane q = s.lane q) ∧
      t.lane p = { s.lane p with stg := (s.lane p).stg.drop k, rb := (u.lane p).rb, rx := (t.lane p).rx } ∧
      let v := u.modLane p (fun l => { l with stg := (s.lane p).stg.drop k })
      ((s.lane p).role = .active → ∃ w evs, execEach .inbound fs v = (w, evs) ∧
        t = (if evs = [] then w else w.modLane p (fun l => { l with rx := .delivering evs })).setRet .unit ∧
        (evs = [] ↔ fs = []) ∧ t.scan = s.scan ∧ t.probes = s.probes ∧
        t.regs = { s.regs with lastConfig := t.regs.lastConfig, lastStatus := t.regs.lastStatus,
                               cfgValid := t.regs.cfgValid, stsValid := t.regs.stsValid }) ∧
      ((s.lane p).role = .probe → t = (execEach (.probeFrame p) fs v).1.setRet .unit ∧
        (t.lane p).rx = .idle ∧ t.regs = { s.regs with scanHits := t.regs.scanHits }) ∧
      ((s.lane p).role = .closed → t = v.setRet .unit)) ∧
    (¬ ((s.lane p).rx = .idle ∧ (s.lane p).stg ≠ []) → exec (.rxStep p) s = .next (s.setRet .waits))

/-- R227, R233, R104: a frame handed to an open lane joins the end of its TX queue, and starts now if the queue was
empty; on a closed lane the send fails and nothing changes. The six command rows, SEND_FRAME and TRANSMIT. What a
FRAME row runs: log entry 9. -/
def Obligations.FramesJoinTheTxQueue : Prop :=
  ∀ (s : State) (p : Nat) (c : Byte) (payload bytes : List Byte) (o : Owner), s.params.wf → payload.length ≤ 255 →
    (exec (.transmit p bytes o) s = .next ((({ s with
        req := if o = Owner.request then { s.req with send := .pending } else s.req } : State).modLane p (fun l : Lane =>
          if l.txq = [] then { l with txq := [(⟨bytes, o⟩ : TxItem)], txStart := s.now, wt := true }
          else { l with txq := l.txq ++ [(⟨bytes, o⟩ : TxItem)] })).setRet .unit)) ∧
    (∀ i : Instr,
      (i = .sendFrame p c payload o ∨
        (txParts s.params.code i = some (p, c, payload) ∧ o = if c = s.params.code.ping then .probe else .request)) →
      ((s.lane p).role = .closed → exec i s = .next (s.setRet (.send .fail))) ∧
      ((s.lane p).role ≠ .closed → ∃ t, exec (.transmit p (frameBytes c payload) o) s = .next t ∧
        exec i s = .next (t.setRet (.send .queued))))

/-- R228, R266: TXDONE completes the head frame: its bytes have left whole, its owner is told OK, and the next queued
frame starts now. With no frame queued the step waits. A step that is not enabled answers `waits`: the model's choice
(log entry 7). `txd` is the model's own trace of TXD (log entry 10). -/
def Obligations.TxDoneCompletesTheHead : Prop :=
  ∀ (s : State) (p : Nat), p < s.lanes.length → p < s.probes.length →
    ((s.lane p).txq = [] → exec (.txDone p) s = .next (s.setRet .waits)) ∧
    (∀ h rest, (s.lane p).txq = h :: rest → ∃ t, exec (.txDone p) s = .next t ∧
      t = { s with lanes := t.lanes, probes := t.probes, req := t.req, ret := .unit } ∧
      (∀ q, q ≠ p → t.lane q = s.lane q) ∧
      t.lane p = { s.lane p with txd := (s.lane p).txd ++ h.bytes, txq := rest, wt := !rest.isEmpty,
                                 txStart := if rest = [] then (s.lane p).txStart else s.now } ∧
      (h.owner = .request → t.req = { s.req with send := .ok } ∧ t.probes = s.probes) ∧
      (h.owner = .probe → t.req = s.req ∧ (∀ q, q ≠ p → t.probe q = s.probe q) ∧
        t.probe p = if (s.probe p).st = .pinging then { s.probe p with st := .waiting, timer := some s.now }
                    else s.probe p))

/-- R229, R261, R266, R340: a write timeout on the active lane fails the head frame and tears the connection down; on
a probe lane that is PINGING it fails the probe, with no event; on one whose probe is not PINGING (it matched early) the
outcome is ignored and the lane stays open, its queue empty; before its time it waits. A step that is not enabled
answers `waits`: the model's choice (log entry 7). `txd` is the model's own trace of TXD (log entry 10). -/
def Obligations.WriteTimeoutFailsTheHead : Prop :=
  ∀ (s : State) (p : Nat) (h : TxItem) (rest : List TxItem), p < s.lanes.length → p < s.probes.length →
    (s.lane p).txq = h :: rest → (s.lane p).wt = true →
    (s.now < (s.lane p).txStart + (s.lane p).writeTo.toNat → exec (.writeTimeout p) s = .next (s.setRet .waits)) ∧
    ((s.lane p).txStart + (s.lane p).writeTo.toNat ≤ s.now →
      ((s.lane p).role = .active → s.conn = .connected → s.active = p → (s.probe p).st = .idle →
        ∃ t, exec (.writeTimeout p) s = .next t ∧
          t = { s with lanes := t.lanes, req := t.req, ret := .unit, conn := .disconnected, active := noPort,
                       ctlOut := s.ctlOut ++ [.disconnected .writeTimeout] } ∧
          (∀ q, q ≠ p → t.lane q = s.lane q) ∧ (t.lane p).role = .closed ∧ (t.lane p).rx = .stopped ∧
          (t.lane p).txq = [] ∧ (t.lane p).stg = [] ∧ (t.lane p).rb.count = 0 ∧
          (∃ n, (t.lane p).txd = (s.lane p).txd ++ h.bytes.take n) ∧
          t.req = { s.req with send := if (h :: rest).any (fun x => x.owner == .request) then .fail else s.req.send }) ∧
      ((s.lane p).role = .probe → (s.probe p).st = .pinging → h.owner = .probe → rest = [] →
        ∃ t, exec (.writeTimeout p) s = .next t ∧
          t = { s with lanes := t.lanes, probes := t.probes, ret := .unit } ∧
          (∀ q, q ≠ p → t.lane q = s.lane q ∧ t.probe q = s.probe q) ∧ (t.lane p).role = .closed ∧
          t.probe p = { s.probe p with st := .fail, timer := none }) ∧
      ((s.lane p).role = .probe → (s.probe p).st ≠ .pinging → h.owner = .probe → rest = [] →
        ∃ n, exec (.writeTimeout p) s = .next ((s.modLane p (fun l =>
          { l with txq := [], wt := false, txd := l.txd ++ h.bytes.take n })).setRet .unit)))

/-- R230: a stop fails every queued frame, drops undelivered events and staged bytes, clears the ring buffer and
closes the lane; it changes no connection state and posts no event. Some prefix of the head frame has left. `txd` is
the model's own trace of TXD (log entry 10). -/
def Obligations.StopLaneClosesTheLane : Prop :=
  ∀ (s : State) (p : Nat), p < s.lanes.length → p < s.probes.length → ∃ t n, exec (.stopLane p) s = .next t ∧
    t = { s with lanes := t.lanes, probes := t.probes, req := t.req, ret := .unit } ∧
    (∀ q, q ≠ p → t.lane q = s.lane q ∧ t.probe q = s.probe q) ∧
    t.lane p = { s.lane p with role := .closed, rx := .stopped, txq := [], wt := false, stg := [],
                               rb := { (s.lane p).rb with r := 0, w := 0, count := 0 },
                               txd := (s.lane p).txd ++ (((s.lane p).txq.map (fun i => i.bytes)).headD []).take n } ∧
    t.req = { s.req with send := if (s.lane p).txq.any (fun i => i.owner == .request) then .fail else s.req.send } ∧
    t.probe p = (if (s.probe p).st = .pinging ∧ (s.lane p).txq.any (fun i => i.owner == .probe) then
                   { s.probe p with st := .fail, timer := none } else s.probe p)

/-- R231, R350, R267: a fault on the active lane tears the connection down with IO_FAIL, on a probe lane it fails the
probe and closes the lane with no event, on a closed lane it does nothing. -/
def Obligations.PortFaultByRole : Prop :=
  ∀ (s : State) (p : Nat), p < s.lanes.length → p < s.probes.length →
    ((s.lane p).role = .closed → exec (.portFault p) s = .next (s.setRet .unit)) ∧
    ((s.lane p).role = .active → s.conn = .connected →
      ∃ t, exec (.teardownActive .ioFail) s = .next t ∧ exec (.portFault p) s = .next t ∧
        t.conn = .disconnected ∧ t.ctlOut = s.ctlOut ++ [.disconnected .ioFail]) ∧
    ((s.lane p).role = .probe → ((s.probe p).st = .pinging ∨ (s.probe p).st = .waiting ∨ (s.probe p).st = .ok) →
      ∃ t, exec (.portFault p) s = .next t ∧
        t = { s with lanes := t.lanes, probes := t.probes, req := t.req, ret := .unit } ∧
        (∀ q, q ≠ p → t.lane q = s.lane q ∧ t.probe q = s.probe q) ∧ (t.lane p).role = .closed ∧
        t.probe p = { s.probe p with st := .fail, timer := none })

/-! ### Scan -/

/-- R264, R262, R263, R31: StartScan latches BAUD and PROBE_TO, records the eligible ports, clears the hits and opens
one probe an eligible port. -/
def Obligations.StartScanRecordsEligiblePorts : Prop :=
  ∀ s : State, s.params.nPorts ≤ 32 → s.probes.length = s.params.nPorts →
    ∃ t, exec .startScan s = .next t ∧
      t = { s with conn := .scanning, ret := .unit, probes := t.probes,
                   scan := { active := true, baud := s.regs.baud, probeTo := s.regs.probeTo, winner := none, tWin := 0,
                             result := .unset },
                   regs := { s.regs with scanEligible := t.regs.scanEligible, scanHits := 0 } } ∧
      (∀ q, t.regs.scanEligible.getLsbD q = true ↔ q < s.params.nPorts ∧ (s.pin q).present = true ∧
        ∀ d ∈ s.params.denylist, ¬ d <:+: s.params.portName.getD q []) ∧
      (∀ q, q < s.params.nPorts →
        t.probe q = { s.probe q with st := if t.regs.scanEligible.getLsbD q then .opening else .idle })

/-- R265, R222, R104: an OPENING probe opens its lane at the scan's baud, draws its nonce and hands the lane its Ping;
when the open fails the probe fails with no event; a probe that is not OPENING waits. A step that is not enabled
answers `waits`: the model's choice (log entry 7). -/
def Obligations.ProbeOpenSendsThePing : Prop :=
  ∀ (s : State) (p : Nat), p < s.lanes.length → p < s.probes.length →
    ((s.probe p).st ≠ .opening → exec (.probeOpen p) s = .next (s.setRet .waits)) ∧
    ((s.probe p).st = .opening → (s.scan.baud = 0 ∨ (s.pin p).openOk = false) →
      exec (.probeOpen p) s = .next ((s.modProbe p (fun b => { b with st := .fail })).setRet .unit)) ∧
    ((s.probe p).st = .opening → s.scan.baud ≠ 0 → (s.pin p).openOk = true →
      ∃ t, exec (.probeOpen p) s = .next t ∧ t = { s with lanes := t.lanes, probes := t.probes, ret := .unit } ∧
        (∀ q, q ≠ p → t.lane q = s.lane q ∧ t.probe q = s.probe q) ∧
        t.probe p = { s.probe p with st := .pinging, nonce := (s.pin p).nonce } ∧
        t.lane p = { s.lane p with
          role := .probe, baud := s.scan.baud, readTo := s.regs.readTo, writeTo := s.regs.writeTo, stg := [], rx := .idle,
          rb := { (s.lane p).rb with r := 0, w := 0, count := 0 }, txStart := s.now, wt := true,
          txq := [⟨[0xAA#8, 0x55#8, s.params.code.ping, 0x01#8, (s.pin p).nonce,
                    s.params.code.ping + 1 + (s.pin p).nonce, 0x0D#8, 0x0A#8], .probe⟩] })

/-- R266, R267, R346: PT[p] expires for a WAITING probe once its time has come, and then the probe fails and its lane
closes, with no event; else the step waits. A step that is not enabled answers `waits`: the model's choice (log entry
7). -/
def Obligations.ProbeTimerFailsTheProbe : Prop :=
  ∀ (s : State) (p : Nat), p < s.lanes.length → p < s.probes.length →
    (∀ t0, (s.probe p).timer = some t0 → (s.probe p).st = .waiting → t0 + s.scan.probeTo.toNat ≤ s.now →
      ∃ t, exec (.probeTimer p) s = .next t ∧
        t = { s with lanes := t.lanes, probes := t.probes, req := t.req, ret := .unit } ∧
        (∀ q, q ≠ p → t.lane q = s.lane q ∧ t.probe q = s.probe q) ∧ (t.lane p).role = .closed ∧
        t.probe p = { s.probe p with st := .fail, timer := none }) ∧
    (((s.probe p).timer = none ∨ (s.probe p).st ≠ .waiting ∨
        ∃ t0, (s.probe p).timer = some t0 ∧ s.now < t0 + s.scan.probeTo.toNat) →
      exec (.probeTimer p) s = .next (s.setRet .waits))

/-- R268, R267, R80: the first success wins; a success at the same time from a lower port replaces it; two successes
at one time end with the lower port, whatever their order. -/
def Obligations.FirstSuccessWins : Prop :=
  ∀ (s : State) (p q : Nat),
    (s.scan.winner = none →
      exec (.arbitrate p) s = .next ((s.modScan (fun c => { c with winner := some p, tWin := s.now })).setRet .unit)) ∧
    (∀ w, s.scan.winner = some w → (s.scan.tWin ≠ s.now ∨ w ≤ p) →
      exec (.arbitrate p) s = .next (s.setRet .unit)) ∧
    (∀ w, s.scan.winner = some w → s.scan.tWin = s.now → p < w →
      exec (.arbitrate p) s = .next ((s.modScan (fun c => { c with winner := some p, tWin := s.now })).setRet .unit)) ∧
    (s.scan.winner = none → ∃ t u, exec (.arbitrate p) s = .next t ∧ exec (.arbitrate q) t = .next u ∧
      u.scan.winner = some (min p q) ∧ u.scan.tWin = s.now)

/-- R267, R113: PROBE_FRAME. A frame answers the Ping only if its code is Ping_ACK and its first payload byte is the
nonce while the probe is PINGING or WAITING; then the probe is OK, its timer is cancelled, its SCAN_HITS bit is set
and arbitration runs. -/
def Obligations.ProbeFrameNeedsTheNonce : Prop :=
  ∀ (s : State) (p : Nat) (f : Frame),
    ((f.code = s.params.code.pingAck ∧ f.payload.head? = some (s.probe p).nonce ∧
        ((s.probe p).st = .pinging ∨ (s.probe p).st = .waiting)) →
      ∃ t, exec (.arbitrate p)
          ((s.modProbe p (fun b => { b with st := .ok, timer := none })).modRegs
            (fun g => { g with scanHits := g.scanHits ||| (1#32 <<< p) })) = .next t ∧
        exec (.probeFrame p f) s = .next t ∧ t.regs.scanHits = s.regs.scanHits ||| (1#32 <<< p) ∧
        (p < s.probes.length → t.probe p = { s.probe p with st := .ok, timer := none }) ∧ t.lanes = s.lanes) ∧
    (¬ (f.code = s.params.code.pingAck ∧ f.payload.head? = some (s.probe p).nonce ∧
        ((s.probe p).st = .pinging ∨ (s.probe p).st = .waiting)) →
      exec (.probeFrame p f) s = .next (s.setRet .unit))

/-- R269, R34: when every probe is done the scan ends: with a winner whose lane is still open it becomes the
connection and keeps its buffer, else (92 D62) the block is Disconnected; every other lane is closed. A step that is not
enabled answers `waits`: the model's choice (log entry 7). -/
def Obligations.ScanEndDecides : Prop :=
  ∀ s : State, ConnInv s → s.conn = .scanning →
    ((∃ p, p < s.params.nPorts ∧ ((s.probe p).st = .opening ∨ (s.probe p).st = .pinging ∨ (s.probe p).st = .waiting)) →
      exec .scanEnd s = .next (s.setRet .waits)) ∧
    ((∀ p, p < s.params.nPorts → (s.probe p).st = .idle ∨ (s.probe p).st = .ok ∨ (s.probe p).st = .fail) →
      ∃ t, exec .scanEnd s = .next t ∧ t.scan.active = false ∧ (∀ p, (t.probe p).st = .idle) ∧ t.now = s.now ∧
        t.diag = s.diag ∧ t.delivered = s.delivered ∧ (∀ q, (t.lane q).rb.mem = (s.lane q).rb.mem) ∧
        (∀ w, s.scan.winner = some w → (s.lane w).role = .probe →
          t.conn = .connected ∧ t.active = w ∧ t.lane w = { s.lane w with role := .active } ∧
          (∀ q, q < s.params.nPorts → q ≠ w → (t.lane q).role = .closed) ∧
          t.regs = { s.regs with cfgValid := false, stsValid := false } ∧
          t.ctlOut = s.ctlOut ++ [.connected w] ∧ t.scan.result = .ok) ∧
        (∀ w, s.scan.winner = some w → (s.lane w).role ≠ .probe →
          t.conn = .disconnected ∧ (∀ q, q < s.params.nPorts → (t.lane q).role = .closed) ∧ t.regs = s.regs ∧
          t.ctlOut = s.ctlOut ++ [.disconnected .ioFail] ∧ t.scan.result = .noDevice) ∧
        (s.scan.winner = none →
          t.conn = .disconnected ∧ (∀ q, q < s.params.nPorts → (t.lane q).role = .closed) ∧ t.regs = s.regs ∧
          t.ctlOut = s.ctlOut ++ [.disconnected .noDevice] ∧ t.scan.result = .noDevice))

/-- R276, R350, R34: a teardown stops the active lane, posts DISCONNECTED with its reason and keeps the LAST registers
and valid bits; outside Connected it does not run. A step that is not enabled answers `waits`: the model's choice (log
entry 7). -/
def Obligations.TeardownEndsTheConnection : Prop :=
  ∀ (s : State) (reason : Reason),
    (s.conn ≠ .connected → exec (.teardownActive reason) s = .next (s.setRet .waits)) ∧
    (s.conn = .connected → s.active < s.lanes.length → ∃ t u, exec (.stopLane s.active) s = .next u ∧ exec (.teardownActive reason) s = .next t ∧
      t = { u with conn := .disconnected, active := 0xFF, ctlOut := s.ctlOut ++ [.disconnected reason] } ∧
      t.regs = s.regs ∧ (t.lane s.active).role = .closed)

/-! ### Requests -/

/-- R272, R278, R121, R300: MANUAL_CONNECT by connection state and open outcome: events, result, connection state,
lane. -/
def Obligations.ManualConnectByState : Prop :=
  ∀ (s : State) (ops : List Byte), ConnInv s → s.req.busy = false → s.ctlOut = [] → ops.length = 5 →
    (byteAt ops 0).toNat < s.params.nPorts →
    ∃ t, exec (.manualConnect ops) s = .next t ∧
      t = { s with conn := t.conn, active := t.active, lanes := t.lanes, ctlOut := t.ctlOut, regs := t.regs,
                   req := { s.req with busy := true, cur := ⟨0x01#8, ops⟩, phase := .done, send := t.req.send },
                   ret := .unit } ∧
      (∀ q, (t.lane q).rb.mem = (s.lane q).rb.mem) ∧
      (s.conn = .scanning → t.ctlOut = [.reqDone 0x01#8 .badState] ∧ t.conn = s.conn ∧ t.lanes = s.lanes) ∧
      (s.conn ≠ .scanning → le32 ops 1 ≠ 0 → (s.pin (byteAt ops 0).toNat).openOk = true →
        t.conn = .connected ∧ t.active = (byteAt ops 0).toNat ∧
        t.ctlOut = (if s.conn = .connected then [.disconnected .requested] else []) ++
          [.connected (byteAt ops 0).toNat, .reqDone 0x01#8 .ok] ∧
        (∀ q, q < s.params.nPorts → (t.lane q).role = if q = (byteAt ops 0).toNat then .active else .closed) ∧
        (t.lane (byteAt ops 0).toNat).baud = le32 ops 1 ∧ (t.lane (byteAt ops 0).toNat).txq = [] ∧
        (t.lane (byteAt ops 0).toNat).rb.count = 0 ∧
        t.regs = { s.regs with cfgValid := false, stsValid := false }) ∧
      (s.conn ≠ .scanning → (le32 ops 1 = 0 ∨ (s.pin (byteAt ops 0).toNat).openOk = false) →
        t.conn = .disconnected ∧ t.active = noPort ∧
        t.ctlOut = (if s.conn = .connected then [.disconnected .requested] else []) ++
          [.disconnected .openFail, .reqDone 0x01#8 .openFail] ∧
        (∀ q, q < s.params.nPorts → (t.lane q).role = .closed) ∧ t.regs = s.regs)

/-- R273, R276, R300: DISCONNECT by connection state. From Connected it is the teardown (TEARDOWN_ACTIVE) and its REQ_DONE;
from Disconnected and Scanning only the REQ_DONE, OK or BAD_STATE. -/
def Obligations.DisconnectByState : Prop :=
  ∀ s : State, s.req.busy = false → s.ctlOut = [] → s.active < s.lanes.length ∨ s.conn ≠ .connected →
    ∃ t, exec (.disconnect []) s = .next t ∧
      t = { s with conn := t.conn, active := t.active, lanes := t.lanes, probes := t.probes, ctlOut := t.ctlOut,
                   req := { s.req with busy := true, cur := ⟨0x04#8, []⟩, phase := .done, send := t.req.send },
                   ret := .unit } ∧
      (∀ q, q ≠ s.active → t.lane q = s.lane q) ∧ (∀ q, (t.lane q).rb.mem = (s.lane q).rb.mem) ∧
      (s.conn = .connected → t.ctlOut = [.disconnected .requested, .reqDone 0x04#8 .ok] ∧ t.conn = .disconnected ∧
        t.active = 0xFF ∧ (t.lane s.active).role = .closed ∧ (∀ q, q ≠ s.active → t.probe q = s.probe q) ∧
        ((s.probe s.active).st ≠ .pinging → t.probes = s.probes) ∧
        ∃ u, exec (.teardownActive .requested) s = .next u ∧
          t = { u with ctlOut := u.ctlOut ++ [.reqDone 0x04#8 .ok],
                       req := { u.req with busy := true, cur := ⟨0x04#8, []⟩, phase := .done } }) ∧
      (s.conn = .disconnected →
        t = { s with ctlOut := [.reqDone 0x04#8 .ok], ret := .unit,
                     req := { s.req with busy := true, cur := ⟨0x04#8, []⟩, phase := .done } }) ∧
      (s.conn = .scanning →
        t = { s with ctlOut := [.reqDone 0x04#8 .badState], ret := .unit,
                     req := { s.req with busy := true, cur := ⟨0x04#8, []⟩, phase := .done } })

/-- R275, R274, R264, R300: SCAN from Disconnected, and RECONNECT from Disconnected or (after a teardown, in the same step)
Connected, start a scan as START_SCAN does and leave the engine waiting in phase SCAN; in any other state the result is
BAD_STATE and nothing else changes. -/
def Obligations.ScanAndReconnectByState : Prop :=
  ∀ s : State, ConnInv s → s.req.busy = false → s.ctlOut = [] →
    (∃ t, exec (.scan []) s = .next t ∧ t.req.busy = true ∧ t.diag = s.diag ∧ t.delivered = s.delivered ∧
      (∀ q, (t.lane q).rb.mem = (s.lane q).rb.mem) ∧
      (s.conn = .disconnected → t.conn = .scanning ∧ t.req.phase = .scan ∧ t.ctlOut = [] ∧ t.scan.active = true ∧
        t.scan.baud = s.regs.baud ∧ t.scan.probeTo = s.regs.probeTo ∧ t.lanes = s.lanes ∧ t.regs.scanHits = 0 ∧
        ∃ u, exec .startScan s = .next u ∧
          t = { u with req := { s.req with busy := true, cur := ⟨0x03#8, []⟩, phase := .scan } }) ∧
      (s.conn ≠ .disconnected →
        t = { s with ctlOut := [.reqDone 0x03#8 .badState], ret := .unit,
                     req := { s.req with busy := true, cur := ⟨0x03#8, []⟩, phase := .done } })) ∧
    (∃ t, exec (.reconnect []) s = .next t ∧ t.req.busy = true ∧ t.diag = s.diag ∧ t.delivered = s.delivered ∧
      (∀ q, (t.lane q).rb.mem = (s.lane q).rb.mem) ∧
      (s.conn = .disconnected → t.conn = .scanning ∧ t.req.phase = .scan ∧ t.ctlOut = [] ∧ t.scan.active = true ∧
        t.lanes = s.lanes ∧ ∃ u, exec .startScan s = .next u ∧
          t = { u with req := { s.req with busy := true, cur := ⟨0x02#8, []⟩, phase := .scan } }) ∧
      (s.conn = .connected → t.conn = .scanning ∧ t.active = 0xFF ∧ t.req.phase = .scan ∧
        t.ctlOut = [.disconnected .reconnect] ∧ t.scan.active = true ∧ t.scan.baud = s.regs.baud ∧
        t.scan.probeTo = s.regs.probeTo ∧ t.regs.scanHits = 0 ∧ (∀ q, q < s.params.nPorts → (t.lane q).role = .closed) ∧
        ∃ u v, exec (.teardownActive .reconnect) s = .next u ∧ exec .startScan u = .next v ∧
          t = { v with req := { v.req with busy := true, cur := ⟨0x02#8, []⟩, phase := .scan } }) ∧
      (s.conn = .scanning →
        t = { s with ctlOut := [.reqDone 0x02#8 .badState], ret := .unit,
                     req := { s.req with busy := true, cur := ⟨0x02#8, []⟩, phase := .done } }))

/-- R129, R311: a descriptor with a reserved opcode, of any of the table's seven ranges, is answered BAD_OPCODE and
has no other effect. -/
def Obligations.ReservedOpcodesAreAnswered : Prop :=
  ∀ (s : State) (i : Instr) (op : Byte) (ops : List Byte), s.req.busy = false → s.ctlOut = [] →
    requestParts i = some (op, ops) → (op = 0x00#8 ∨ 0x0A ≤ op.toNat) →
    exec i s = .next { s with ctlOut := [.reqDone op .badOpcode], ret := .unit,
                              req := { s.req with busy := true, cur := ⟨op, ops⟩, phase := .done } }

/-- R302, R347, R341, R327: the checks of Execute, in their order: BAD_OPCODE, BAD_REQUEST, PHASE_CAP, NOT_CONNECTED.
A request that fails one posts its REQ_DONE, sends nothing and changes nothing else. -/
def Obligations.ExecuteChecksInOrder : Prop :=
  ∀ (s : State) (op : Byte) (ops : List Byte) (r : Result),
    (let n := ops.length
     let bad :=
      (op = 0x01#8 ∧ (n ≠ 5 ∨ s.params.nPorts ≤ (byteAt ops 0).toNat)) ∨
      ((op = 0x02#8 ∨ op = 0x03#8 ∨ op = 0x04#8 ∨ op = 0x05#8 ∨ op = 0x06#8) ∧ n ≠ 0) ∨
      (op = 0x07#8 ∧ (n = 0 ∨ 3 < (byteAt ops 0).toNat ∨ n ≠ [21, 33, 33, 37].getD (byteAt ops 0).toNat 0)) ∨
      (op = 0x08#8 ∧ n % 4 ≠ 0) ∨ (op = 0x09#8 ∧ n ≠ 1)
     if op = 0x00#8 ∨ 0x0A ≤ op.toNat then r = .badOpcode
     else if bad then r = .badRequest
     else if op = 0x08#8 ∧ 63 < n / 4 then r = .phaseCap
     else 0x05 ≤ op.toNat ∧ s.conn ≠ .connected ∧ r = .notConnected) →
    exec (.execute ⟨op, ops⟩) s = .next { s with ctlOut := s.ctlOut ++ [.reqDone op r], ret := .unit,
                                                 req := { s.req with phase := .done } }

/-- R303-R310, R110-R114, R327: a well-formed protocol request in Connected hands the active lane exactly one frame
and leaves the engine waiting in phase SEND; the payload of each. PROTOCOL_SEND is the send path they share, and
Execute runs it for each of the five opcodes. -/
def Obligations.ProtocolRequestsHandOneFrame : Prop :=
  ∀ (s : State) (c : Byte) (payload : List Byte), s.conn = .connected → s.active < s.lanes.length →
    (s.lane s.active).role ≠ .closed → payload.length ≤ 255 →
    let handed := fun (q : Req) => Host.Outcome.next ((({ s with
      req := { q with phase := .send, send := .pending } } : State).modLane s.active (fun l : Lane =>
        if l.txq = [] then
          { l with txq := [(⟨frameBytes c payload, .request⟩ : TxItem)], txStart := s.now, wt := true }
        else { l with txq := l.txq ++ [(⟨frameBytes c payload, .request⟩ : TxItem)] })).setRet .unit)
    exec (.protocolSend c payload) s = handed s.req ∧
    ∀ (i : Instr) (op : Byte) (ops : List Byte),
      ((i = .getConfig ops ∧ ops = [] ∧ op = 0x05#8 ∧ c = s.params.code.getConfig ∧ payload = []) ∨
       (i = .getStatus ops ∧ ops = [] ∧ op = 0x06#8 ∧ c = s.params.code.getStatus ∧ payload = []) ∨
       (i = .setStimulation ops ∧ stimOlen (byteAt ops 0) = some ops.length ∧ op = 0x07#8 ∧
         c = s.params.code.setStimulation ∧ payload = stimPayload s.params.stimCode ops) ∨
       (i = .setPhases ops ∧ ops.length % 4 = 0 ∧ ops.length / 4 ≤ 63 ∧ op = 0x08#8 ∧ c = s.params.code.setPhases ∧
         payload = ops) ∨
       (i = .setEnable ops ∧ ops.length = 1 ∧ op = 0x09#8 ∧ c = s.params.code.enableDisable ∧
         payload = if byteAt ops 0 = 0 then [0x00#8] else [0x01#8])) →
      exec (.execute ⟨op, ops⟩) s = handed s.req ∧
      (s.req.busy = false → s.ctlOut = [] → exec i s = handed { s.req with busy := true, cur := ⟨op, ops⟩ })

/-- R110, R117, R124, R306: the SetStimulation payload of each variant: the type byte, every vec3 as x, z, y, the
radius, strength and frequency; as many bytes as operands. -/
def Obligations.StimulationPayloadLayout : Prop :=
  ∀ (codes : StimCodes) (ops : List Byte),
    (byteAt ops 0 = 0 → ops.length = 21 →
      stimPayload codes ops = codes.point :: (slice ops 1 5 ++ slice ops 9 13 ++ slice ops 5 9 ++ ops.drop 13) ∧
      (stimPayload codes ops).length = 21) ∧
    (byteAt ops 0 = 1 ∨ byteAt ops 0 = 2 → ops.length = 33 →
      stimPayload codes ops = (if byteAt ops 0 = 1 then codes.vibration else codes.linear) ::
        (slice ops 1 5 ++ slice ops 9 13 ++ slice ops 5 9 ++ slice ops 13 17 ++ slice ops 21 25 ++ slice ops 17 21 ++
         ops.drop 25) ∧ (stimPayload codes ops).length = 33) ∧
    (byteAt ops 0 = 3 → ops.length = 37 →
      stimPayload codes ops = codes.circular ::
        (slice ops 1 5 ++ slice ops 9 13 ++ slice ops 5 9 ++ slice ops 13 17 ++ slice ops 21 25 ++ slice ops 17 21 ++
         ops.drop 25) ∧ (stimPayload codes ops).length = 37)

/-- R300, R303, R308: SendComplete posts the result of the frame, STIMULATION_SENT before it for a completed
SET_STIMULATION; while the frame is not finished it waits. A step that is not enabled answers `waits`: the model's
choice (log entry 7). -/
def Obligations.SendCompletePostsTheResult : Prop :=
  ∀ s : State,
    (s.req.phase = .send → s.req.send = .ok →
      exec (.requestEngineSteps .sendComplete) s = .next { s with
        ctlOut := s.ctlOut ++ (if s.req.cur.opcode = 0x07#8 then [.stimulationSent s.req.cur.ops] else []) ++
          [.reqDone s.req.cur.opcode .ok],
        req := { s.req with phase := .done, send := .unset }, ret := .unit }) ∧
    (s.req.phase = .send → s.req.send = .fail →
      exec (.requestEngineSteps .sendComplete) s = .next { s with
        ctlOut := s.ctlOut ++ [.reqDone s.req.cur.opcode .sendFail],
        req := { s.req with phase := .done, send := .unset }, ret := .unit }) ∧
    (s.req.phase ≠ .send ∨ s.req.send = .pending →
      exec (.requestEngineSteps .sendComplete) s = .next (s.setRet .waits))

/-- R300: ScanComplete posts the scan's result once the scan has ended; Retire ends the request once the host has
taken every event. Not enabled, they wait. A step that is not enabled answers `waits`: the model's choice (log entry
7). -/
def Obligations.ScanCompleteAndRetire : Prop :=
  ∀ s : State,
    (s.req.phase = .scan → s.scan.active = false → ∀ r, (s.scan.result, r) ∈ [(ScanResult.ok, Result.ok), (.noDevice, .noDevice)] →
      exec (.requestEngineSteps .scanComplete) s = .next { s with
        ctlOut := s.ctlOut ++ [.reqDone s.req.cur.opcode r], req := { s.req with phase := .done }, ret := .unit }) ∧
    (s.req.phase ≠ .scan ∨ s.scan.active = true →
      exec (.requestEngineSteps .scanComplete) s = .next (s.setRet .waits)) ∧
    (s.req.phase = .done → s.ctlOut = [] →
      exec (.requestEngineSteps .retire) s = .next { s with req := { s.req with busy := false, phase := .idle }, ret := .unit }) ∧
    (s.req.phase ≠ .done ∨ s.ctlOut ≠ [] → exec (.requestEngineSteps .retire) s = .next (s.setRet .waits))

/-- R300, R301, R120: Take of a descriptor is the row its opcode byte names, and runs Execute with the engine busy;
while a request is in progress, or the outbox is not empty, no request row is taken. A step that is not enabled
answers `waits`: the model's choice (log entry 7). -/
def Obligations.TakeRunsTheRow : Prop :=
  ∀ (s : State) (d : Descriptor),
    (s.req.busy = false → s.ctlOut = [] → ∃ t,
      exec (.execute d) { s with req := { s.req with busy := true, cur := d, phase := .validate } } = .next t ∧
      exec (.requestEngineSteps (.take d)) s = .next t ∧ exec (requestInstr d.opcode d.ops) s = .next t ∧
      t.req.busy = true ∧ t.req.cur = d) ∧
    (s.req.busy = true ∨ s.ctlOut ≠ [] → exec (requestInstr d.opcode d.ops) s = .next (s.setRet .waits) ∧
      exec (.requestEngineSteps (.take d)) s = .next (s.setRet .waits)) ∧
    (∀ i, requestParts i = some (d.opcode, d.ops) → i = requestInstr d.opcode d.ops)

/-! ### Reset, environment -/

/-- R370, R47, R374: the reset input puts every part of the block at its reset value; time, the parameters and what
the environment holds stay, and a frame being sent is cut off. The model's choice: `txd`, its own trace of TXD (log
entry 10); the zeros of scan.baud, scan.probe_to and req.cur, for which R47 gives no value (log entry 6); what the reset
input keeps beside time (log entry 19). -/
def Obligations.ResetInput : Prop :=
  ∀ s : State, ∃ t, exec .reset s = .next t ∧
    t = { State.resetOf s.params s.pins with
            lanes := t.lanes, probes := s.probes.map (fun _ => Probe.reset), now := s.now, inputs := s.inputs,
            delivered := s.delivered, ret := .unit } ∧
    t.lanes.length = s.lanes.length ∧
    (∀ q, q < s.lanes.length → ∃ n,
      t.lane q = { role := .closed, baud := 0, readTo := 0, writeTo := 0, stg := [], rx := .stopped, txq := [], txStart := 0,
                   wt := false, rb := { (s.lane q).rb with r := 0, w := 0, count := 0 },
                   txd := (s.lane q).txd ++ (((s.lane q).txq.map (fun i => i.bytes)).headD []).take n })

/-- R47, R22, R40, R260: the state after reset meets the three invariants, every component stands as R47 lists it, and the
registers read as the spec lists them, RB_CAP and NPORTS their parameters (modulo 2^32: the model's choice, log entry 17). -/
def Obligations.ResetStateIsGood : Prop :=
  StorageInv State.reset ∧ ConnInv State.reset ∧ EngineInv State.reset ∧
  State.reset.conn = .disconnected ∧ State.reset.active = 0xFF ∧ State.reset.ctlOut = [] ∧
  (∀ p, let l := State.reset.lane p
    l.role = .closed ∧ l.rb.r = 0 ∧ l.rb.w = 0 ∧ l.rb.count = 0 ∧ l.stg = [] ∧ l.rx = .stopped ∧ l.txq = [] ∧
    (State.reset.probe p).st = .idle) ∧
  State.reset.scan.active = false ∧ State.reset.scan.winner = none ∧ State.reset.scan.tWin = 0 ∧
  State.reset.scan.result = .unset ∧ State.reset.req.busy = false ∧ State.reset.req.phase = .idle ∧
  State.reset.req.send = .unset ∧
  (∀ (off : Byte) (w : Word),
    (off, w) ∈ [(0x00#8, 0x0000FF00#32), (0x04#8, 115200#32), (0x08#8, 100000#32), (0x0C#8, 500000#32), (0x10#8, 200000#32),
                (0x14#8, BitVec.ofNat 32 State.reset.params.rbCap), (0x18#8, 0#32),
                (0x1C#8, BitVec.ofNat 32 State.reset.params.nPorts), (0x20#8, 0#32), (0x24#8, 0#32), (0x28#8, 0#32),
                (0x2C#8, 0#32), (0x30#8, 0#32), (0x34#8, 0#32), (0x38#8, 0#32), (0x3C#8, 0#32)] →
    exec (.regRead off) State.reset = .next (State.reset.setRet (.word w))) ∧
  (∀ off : Byte, (0x40 ≤ off.toNat ∧ off.toNat < 0x58) ∨ (0x60 ≤ off.toNat ∧ off.toNat < 0x88) →
    exec (.regRead off) State.reset = .next (State.reset.setRet (.word 0)))

/-- R7, R48, R226, R10: the host takes the head event of the outbox or of a lane's RX engine, in order within each;
with none there it waits. Time moves forward while no timer is due (a timer may run), and does not while one is: R10 read
by inference (log entry 8). A step that is not enabled answers `waits`: the model's choice (log entry 7). -/
def Obligations.HostTakesEventsInOrder : Prop :=
  ∀ (s : State) (p : Nat),
    (∀ e rest, s.ctlOut = e :: rest → envStep .hostTakesCtl s = .next { s with
      ctlOut := rest, delivered := s.delivered ++ [e], ret := .events [e] }) ∧
    (s.ctlOut = [] → envStep .hostTakesCtl s = .next (s.setRet .waits)) ∧
    (∀ e rest, (s.lane p).rx = .delivering (e :: rest) → envStep (.hostTakesLane p) s = .next
      (({ s with delivered := s.delivered ++ [e], ret := .events [e] } : State).modLane p
        (fun l => { l with rx := if rest = [] then .idle else .delivering rest }))) ∧
    ((s.lane p).rx = .idle ∨ (s.lane p).rx = .stopped → envStep (.hostTakesLane p) s = .next (s.setRet .waits)) ∧
    (let writeDue := fun q => (s.lane q).wt = true ∧ (s.lane q).txq ≠ [] ∧
       (s.lane q).txStart + (s.lane q).writeTo.toNat ≤ s.now
     let probeDue := fun q => (s.probe q).st = .waiting ∧
       ∃ t0, (s.probe q).timer = some t0 ∧ t0 + s.scan.probeTo.toNat ≤ s.now
     ∀ dt,
      ((∀ q, q < s.lanes.length → ¬ writeDue q ∧ ¬ probeDue q) →
        envStep (.advance dt) s = .next { s with now := s.now + dt, ret := .unit }) ∧
      ((∃ q, q < s.lanes.length ∧ (writeDue q ∨ probeDue q)) →
        envStep (.advance dt) s = .next (s.setRet .waits)))

/-! ### Whole-machine invariants -/

/-- R40, R42, R32, R33, R3: every step keeps the storage in form (ring buffers, staging FIFOs, canonical storage
cells, the LAST registers' sizes) and the parameters as they are. -/
def Obligations.StepKeepsStorageInForm : Prop :=
  ∀ s t : State, StorageInv s → step s = .next t → StorageInv t ∧ t.params = s.params

/-- R22, R23, R43, R235, R260, R279: every step keeps the lanes and the connection state in agreement: at most one
active lane, and it is `active` exactly while Connected; no lane open while Disconnected; only probe lanes open while
Scanning; one RX engine an open lane. -/
def Obligations.StepKeepsLanesAndConnectionInAgreement : Prop :=
  ∀ s t : State, ConnInv s → step s = .next t → ConnInv t

/-- R44, R48, R300: every step keeps the request engine and the outbox in agreement; the outbox never holds more than
four events. -/
def Obligations.StepKeepsEngineAndOutboxInAgreement : Prop :=
  ∀ s t : State, ConnInv s → EngineInv s → step s = .next t → EngineInv t ∧ t.ctlOut.length ≤ 4

/-- R260, R273: a scan cannot be cancelled: only the scan-end step and reset leave Scanning. -/
def Obligations.OnlyScanEndOrResetLeavesScanning : Prop :=
  ∀ s t : State, ConnInv s → s.conn = .scanning → step s = .next t → t.conn ≠ .scanning →
    s.inputs.head? = some .scanEnd ∨ s.inputs.head? = some .reset

/-- R141, R300, R301: exactly one REQ_DONE a request. A step posts one just when it moves the engine into phase DONE, and no
other step but reset adds or loses one; the engine becomes busy only by the Take of a request, from IDLE with an empty
outbox; while it is busy it keeps its request; and it stops being busy only from phase DONE, which it leaves only so. -/
def Obligations.OneReqDoneARequest : Prop :=
  ∀ s t : State, ConnInv s → EngineInv s → step s = .next t → s.inputs.head? ≠ some .reset →
    reqDones (t.delivered ++ t.ctlOut) = reqDones (s.delivered ++ s.ctlOut) +
      (if t.req.phase = .done ∧ s.req.phase ≠ .done then 1 else 0) ∧
    (s.req.busy = false → t.req.busy = true → s.ctlOut = [] ∧ ∃ x i op ops, s.inputs.head? = some x ∧
      decodeInput s.params x = .instr i ∧ requestParts i = some (op, ops) ∧ t.req.cur = ⟨op, ops⟩) ∧
    (s.req.busy = true → t.req.busy = true → t.req.cur = s.req.cur ∧ (s.req.phase = .done → t.req.phase = .done)) ∧
    (s.req.busy = true → t.req.busy = false → s.req.phase = .done ∧ s.ctlOut = [])

/-! ### Event records -/

/-- R131-R141, R130, R133, R139: the bytes of each event record: its code, its length, its data. -/
def Obligations.EventRecordBytes : Prop :=
  (∀ e : Event, e.data.length ≤ 65535 → ∃ ev l0 l1, e.record = ev :: l0 :: l1 :: e.data ∧
    le16 e.record 1 = e.data.length ∧ 1 ≤ ev.toNat ∧ ev.toNat ≤ 10) ∧
  (∀ p : Nat, (Event.connected p).record = [0x01#8, 0x01#8, 0x00#8, BitVec.ofNat 8 p]) ∧
  (∀ (r : Reason) (b : Byte), (r, b) ∈ [(Reason.requested, 0x00#8), (.ioFail, 0x01#8), (.writeTimeout, 0x02#8),
      (.openFail, 0x03#8), (.noDevice, 0x04#8), (.reconnect, 0x05#8)] →
    (Event.disconnected r).record = [0x02#8, 0x01#8, 0x00#8, b]) ∧
  (∀ cfg : List Byte, cfg.length = 21 → (Event.configReceived cfg).record = 0x03#8 :: 0x15#8 :: 0x00#8 :: cfg) ∧
  (∀ sts : List Byte, sts.length = 37 → (Event.statusReceived sts).record = 0x04#8 :: 0x25#8 :: 0x00#8 :: sts) ∧
  (∀ ops : List Byte, ops.length ≤ 255 →
    (Event.stimulationSent ops).record = 0x05#8 :: BitVec.ofNat 8 ops.length :: 0x00#8 :: ops) ∧
  (∀ e : Byte, (Event.errorReceived e).record = [0x06#8, 0x01#8, 0x00#8, e]) ∧
  (∀ raw : List Byte, raw.length ≤ 262 → (Event.frameReceived raw).record =
    0x07#8 :: BitVec.ofNat 8 raw.length :: (if raw.length < 256 then 0x00#8 else 0x01#8) :: raw) ∧
  (∀ (k : AckKind) (b : Byte), (k, b) ∈ [(AckKind.ack, 0x00#8), (.nack, 0x01#8), (.sack, 0x02#8)] →
    (Event.ackReceived k).record = [0x08#8, 0x01#8, 0x00#8, b]) ∧
  (∀ c l : Byte, (Event.decodeFailed c l).record = [0x09#8, 0x02#8, 0x00#8, c, l]) ∧
  (∀ (op : Byte) (r : Result) (b : Byte), (r, b) ∈ [(Result.ok, 0x00#8), (.notConnected, 0x01#8), (.badState, 0x02#8),
      (.phaseCap, 0x03#8), (.badRequest, 0x04#8), (.sendFail, 0x05#8), (.openFail, 0x06#8), (.noDevice, 0x07#8),
      (.badOpcode, 0x08#8)] → (Event.reqDone op r).record = [0x0A#8, 0x02#8, 0x00#8, op, b])
end

