-- ==== Sys2Proof/Laws/Memory.lean ====
section
/-!
SUPPORT. Sys2Proof/Laws/Memory.lean: reading after writing, and the canonical form that a write keeps.
-/

namespace Sys2Proof.Machine

@[simp] theorem Memory.read_nil (a : Nat) : Memory.read [] a = memUnwritten := rfl

theorem Memory.wf_nil : Memory.wf [] := ⟨List.Pairwise.nil, by simp⟩

theorem Memory.wf_tail {c : Host.Cell} {m : Memory} (h : Memory.wf (c :: m)) : Memory.wf m :=
  ⟨(List.pairwise_cons.1 h.1).2, fun d hd => h.2 d (List.mem_cons_of_mem c hd)⟩

/-- An address below every listed one reads as an unwritten byte. -/
theorem Memory.read_below {m : Memory} {a : Nat} (h : ∀ c ∈ m, a < c.1) : m.read a = memUnwritten := by
  induction m with
  | nil => rfl
  | cons c m ih =>
    obtain ⟨x, b⟩ := c
    have hx : a < x := h (x, b) (by simp)
    have : ¬ x = a := by omega
    simp only [Memory.read, this, if_false]
    exact ih (fun c hc => h c (List.mem_cons_of_mem _ hc))

/-- Where a cell of a written memory comes from. -/
theorem Memory.mem_write {m : Memory} {a : Nat} {b : Byte} {c : Host.Cell} (h : c ∈ m.write a b) :
    c ∈ m ∨ (c = (a, b) ∧ b ≠ memUnwritten) := by
  induction m with
  | nil =>
    by_cases hb : b = memUnwritten <;> simp [Memory.write, hb] at h
    exact .inr ⟨h, hb⟩
  | cons d m ih =>
    obtain ⟨x, y⟩ := d
    simp only [Memory.write] at h
    split_ifs at h with h1 h2 h3 h4
    · exact .inl h
    · rcases List.mem_cons.1 h with rfl | h
      · exact .inr ⟨rfl, h2⟩
      · exact .inl h
    · exact .inl (List.mem_cons_of_mem _ h)
    · rcases List.mem_cons.1 h with rfl | h
      · exact .inr ⟨rfl, h4⟩
      · exact .inl (List.mem_cons_of_mem _ h)
    · rcases List.mem_cons.1 h with rfl | h
      · exact .inl (by simp)
      · rcases ih h with h | h
        · exact .inl (List.mem_cons_of_mem _ h)
        · exact .inr h

/-- A write keeps the canonical form. -/
theorem Memory.wf_write {m : Memory} (h : m.wf) (a : Nat) (b : Byte) : (m.write a b).wf := by
  refine ⟨?_, fun c hc => ?_⟩
  · induction m with
    | nil => by_cases hb : b = memUnwritten <;> simp [Memory.write, hb]
    | cons d m ih =>
      obtain ⟨x, y⟩ := d
      have hp := List.pairwise_cons.1 h.1
      have hlt : ∀ c ∈ m, x < c.1 := fun c hc => hp.1 c hc
      simp only [Memory.write]
      split_ifs with h1 h2 h3 h4
      · exact h.1
      · refine List.pairwise_cons.2 ⟨fun c hc => ?_, h.1⟩
        rcases List.mem_cons.1 hc with rfl | hc
        · exact h1
        · exact Nat.lt_trans h1 (hlt c hc)
      · exact hp.2
      · subst h3; exact List.pairwise_cons.2 ⟨hlt, hp.2⟩
      · refine List.pairwise_cons.2 ⟨fun c hc => ?_, ih (Memory.wf_tail h)⟩
        rcases Memory.mem_write hc with hc | ⟨rfl, _⟩
        · exact hlt c hc
        · show x < a
          omega
  · rcases Memory.mem_write hc with hc | ⟨rfl, hb⟩
    · exact h.2 c hc
    · exact hb

/-- A write keeps every listed address below a bound that the written one is below. -/
theorem Memory.bound_write {m : Memory} {n a : Nat} {b : Byte} (h : ∀ c ∈ m, c.1 < n) (ha : a < n) :
    ∀ c ∈ m.write a b, c.1 < n := by
  intro c hc
  rcases Memory.mem_write hc with hc | ⟨rfl, _⟩
  · exact h c hc
  · exact ha

/-- Read after write, at the same address and at every other one. -/
theorem Memory.read_write {m : Memory} (h : m.wf) (a a' : Nat) (b : Byte) :
    (m.write a b).read a' = if a' = a then b else m.read a' := by
  induction m with
  | nil => by_cases hb : b = memUnwritten <;> by_cases ha : a' = a <;> simp_all [Memory.write, Memory.read, eq_comm]
  | cons d m ih =>
    obtain ⟨x, y⟩ := d
    have hp := List.pairwise_cons.1 h.1
    have hlt : ∀ c ∈ m, x < c.1 := fun c hc => hp.1 c hc
    simp only [Memory.write]
    split_ifs with h1 h2 h3 h4 h5 h6 h7 h8
    · subst h3; subst h2
      exact Memory.read_below (fun c hc => by
        rcases List.mem_cons.1 hc with rfl | hc
        · exact h1
        · exact Nat.lt_trans h1 (hlt c hc))
    · rfl
    · subst h4; simp [Memory.read]
    · simp [Memory.read, Ne.symm h4]
    · subst h7; subst h5; subst h6; exact Memory.read_below hlt
    · have : ¬ x = a' := by omega
      simp [Memory.read, this]
    · subst h8; simp [Memory.read]
    · have h9 : ¬ x = a' := by omega
      have h10 : ¬ a = a' := by omega
      simp [Memory.read, h9, h10]
    · rename_i h9
      subst h9
      have h10 : ¬ x = a' := by omega
      simp [Memory.read, h10, ih (Memory.wf_tail h)]
    · rename_i h9
      simp [Memory.read, ih (Memory.wf_tail h), h9]

@[simp] theorem Memory.read_write_same {m : Memory} (h : m.wf) (a : Nat) (b : Byte) : (m.write a b).read a = b := by
  simp [Memory.read_write h]

@[simp] theorem Memory.read_write_ne {m : Memory} (h : m.wf) {a a' : Nat} (b : Byte) (ha : a' ≠ a) :
    (m.write a b).read a' = m.read a' := by
  simp [Memory.read_write h, ha]

end Sys2Proof.Machine
end

