-- ==== Sys2Proof/Laws/RingBuffer.lean ====
section
/-!
SUPPORT. Sys2Proof/Laws/RingBuffer.lean: what each ring-buffer operation does, in the terms of the occupied bytes, and the
form of the storage that each keeps.
-/

namespace Sys2Proof.Machine

/-! ### The occupied bytes -/

@[simp] theorem RingBuf.length_content (cap : Nat) (b : RingBuf) : (b.content cap).length = b.count := by
  simp [RingBuf.content]

theorem RingBuf.getElem?_content (cap : Nat) (b : RingBuf) (i : Nat) :
    (b.content cap)[i]? = if i < b.count then some (b.mem.read ((b.r + i) % cap)) else none := by
  by_cases h : i < b.count <;> simp [RingBuf.content, h]

/-- PeekByte is the occupied byte, or 0x00. -/
theorem RingBuf.peekByte_eq (cap i : Nat) (b : RingBuf) : b.peekByte cap i = (b.content cap).getD i 0x00#8 := by
  rw [List.getD_eq_getElem?_getD, RingBuf.getElem?_content, RingBuf.peekByte]
  split <;> rfl

/-- Peek is the first occupied bytes. -/
theorem RingBuf.peek_eq (cap n : Nat) (b : RingBuf) : b.peek cap n = (b.content cap).take n := by
  simp [RingBuf.peek, RingBuf.content, ← List.map_take, List.take_range]

/-- Skip drops the first occupied bytes. -/
theorem RingBuf.content_skip (cap n : Nat) (b : RingBuf) : (b.skip cap n).content cap = (b.content cap).drop n := by
  apply List.ext_getElem?
  intro i
  rw [List.getElem?_drop, RingBuf.getElem?_content, RingBuf.getElem?_content]
  have h : (i < b.count - min n b.count) = (n + i < b.count) := by
    by_cases hn : n ≤ b.count
    · simp only [Nat.min_eq_left hn, eq_iff_iff]; omega
    · simp only [Nat.min_eq_right (by omega : b.count ≤ n), eq_iff_iff]; omega
  simp only [RingBuf.skip, h]
  by_cases hi : n + i < b.count
  · simp only [hi, if_true, Nat.min_eq_left (by omega : n ≤ b.count), Nat.mod_add_mod, Nat.add_assoc]
  · simp only [hi, if_false]

/-- Read returns the first occupied bytes, and leaves what Skip leaves. -/
theorem RingBuf.read_eq (cap n : Nat) (b : RingBuf) : b.read cap n = (b.skip cap n, (b.content cap).take n) := by
  rw [RingBuf.read, RingBuf.peek_eq]
  congr 1
  by_cases hn : n ≤ b.count
  · rw [Nat.min_eq_left hn]
  · rw [Nat.min_eq_right (by omega), List.take_of_length_le (by simp), List.take_of_length_le (by simp; omega)]

@[simp] theorem RingBuf.content_clear (cap : Nat) (b : RingBuf) : b.clear.content cap = [] := rfl

/-! ### Form -/

theorem RingBuf.wf_clear {cap : Nat} {b : RingBuf} (h : b.wf cap) : b.clear.wf cap := by
  obtain ⟨-, h1, -, -, h4, h5⟩ := h
  exact ⟨Nat.zero_le _, Nat.lt_of_le_of_lt (Nat.zero_le _) h1, Nat.lt_of_le_of_lt (Nat.zero_le _) h1,
    (Nat.zero_mod cap).symm, h4, h5⟩

theorem RingBuf.wf_empty {cap : Nat} (h : 1 ≤ cap) : RingBuf.empty.wf cap :=
  ⟨Nat.zero_le _, h, h, (Nat.zero_mod cap).symm, Memory.wf_nil, by simp [RingBuf.empty]⟩

theorem RingBuf.wf_skip {cap : Nat} {b : RingBuf} (n : Nat) (h : b.wf cap) : (b.skip cap n).wf cap := by
  obtain ⟨h0, h1, h2, h3, h4, h5⟩ := h
  have hm : min n b.count ≤ b.count := Nat.min_le_right n b.count
  refine ⟨?_, Nat.mod_lt _ (by omega), h2, ?_, h4, h5⟩
  · show b.count - min n b.count ≤ cap
    omega
  · show b.w = ((b.r + min n b.count) % cap + (b.count - min n b.count)) % cap
    rw [Nat.mod_add_mod, h3]
    congr 1
    omega

/-! ### Storing -/

/-- What the store loop leaves: the cursor, the form, the bytes stored and those not stored to. -/
theorem storeBytes_spec {cap : Nat} (hcap : 0 < cap) (data : List Byte) :
    ∀ (m : Memory) (w : Nat), m.wf → (∀ c ∈ m, c.1 < cap) → w < cap → data.length ≤ cap →
      (storeBytes cap m w data).2 = (w + data.length) % cap ∧ (storeBytes cap m w data).1.wf ∧
      (∀ c ∈ (storeBytes cap m w data).1, c.1 < cap) ∧
      (∀ i, i < data.length → (storeBytes cap m w data).1.read ((w + i) % cap) = data.getD i 0) ∧
      (∀ a, (∀ i, i < data.length → a ≠ (w + i) % cap) → (storeBytes cap m w data).1.read a = m.read a) := by
  induction data with
  | nil =>
    intro m w hm hb hw _
    exact ⟨(Nat.mod_eq_of_lt hw).symm, hm, hb, by simp, fun _ _ => rfl⟩
  | cons d ds ih =>
    intro m w hm hb hw hl
    simp only [List.length_cons] at hl
    obtain ⟨h1, h2, h3, h4, h5⟩ := ih (m.write w d) ((w + 1) % cap) (Memory.wf_write hm w d)
      (Memory.bound_write hb hw) (Nat.mod_lt _ hcap) (by omega)
    have hshift : ∀ i, ((w + 1) % cap + i) % cap = (w + (i + 1)) % cap := by
      intro i; rw [Nat.mod_add_mod]; congr 1; omega
    simp only [storeBytes]
    refine ⟨?_, h2, h3, ?_, ?_⟩
    · rw [h1, hshift]; simp
    · intro i hi
      cases i with
      | zero =>
        have hne : ∀ i, i < ds.length → (w + 0) % cap ≠ ((w + 1) % cap + i) % cap := by
          intro i hi heq
          rw [hshift, Nat.add_zero] at heq
          have := (Nat.ModEq.symm heq : (w + (i + 1)) ≡ w [MOD cap])
          have h6 : (i + 1) ≡ 0 [MOD cap] := Nat.ModEq.add_left_cancel' w (by simpa using this)
          have h7 := (Nat.modEq_zero_iff_dvd).1 h6
          have := Nat.le_of_dvd (by omega) h7
          omega
        rw [h5 _ hne, Nat.add_zero, Nat.mod_eq_of_lt hw, Memory.read_write_same hm]
        rfl
      | succ i =>
        have hi' : i < ds.length := by simpa using hi
        have := h4 i hi'
        rw [hshift] at this
        simpa using this
    · intro a ha
      have hw0 : a ≠ w := by
        have := ha 0 (by simp)
        rwa [Nat.add_zero, Nat.mod_eq_of_lt hw] at this
      rw [h5 a (fun i hi => by rw [hshift]; exact ha (i + 1) (by simpa using hi)), Memory.read_write_ne hm _ hw0]

/-- Appending a chunk that fits: the occupied bytes grow by it, the form is kept, no other byte changes. -/
theorem RingBuf.append_spec {cap : Nat} {b : RingBuf} (h : b.wf cap) (data : List Byte)
    (hfit : b.count + data.length ≤ cap) :
    (b.append cap data).wf cap ∧ (b.append cap data).content cap = b.content cap ++ data ∧
    (b.append cap data).r = b.r ∧ (b.append cap data).count = b.count + data.length ∧
    ∀ a, (∀ i, i < data.length → a ≠ (b.w + i) % cap) → (b.append cap data).mem.read a = b.mem.read a := by
  obtain ⟨h0, h1, h2, h3, h4, h5⟩ := h
  have hcap : 0 < cap := by omega
  obtain ⟨s1, s2, s3, s4, s5⟩ := storeBytes_spec hcap data b.mem b.w h4 h5 h2 (by omega)
  have hw : ∀ i, (b.w + i) % cap = (b.r + (b.count + i)) % cap := by
    intro i; rw [h3, Nat.mod_add_mod, Nat.add_assoc]
  refine ⟨⟨hfit, h1, ?_, ?_, s2, s3⟩, ?_, rfl, rfl, s5⟩
  · show (storeBytes cap b.mem b.w data).2 < cap
    rw [s1]; exact Nat.mod_lt _ hcap
  · show (storeBytes cap b.mem b.w data).2 = (b.r + (b.count + data.length)) % cap
    rw [s1, hw]
  · apply List.ext_getElem?
    intro i
    rw [RingBuf.getElem?_content, List.getElem?_append, RingBuf.getElem?_content, RingBuf.length_content]
    show (if i < b.count + data.length then
      some ((storeBytes cap b.mem b.w data).1.read ((b.r + i) % cap)) else none) = _
    by_cases hi : i < b.count
    · have hne : ∀ j, j < data.length → (b.r + i) % cap ≠ (b.w + j) % cap := by
        intro j hj heq
        rw [hw] at heq
        have h6 : i ≡ b.count + j [MOD cap] := Nat.ModEq.add_left_cancel' b.r heq
        have := Nat.ModEq.eq_of_lt_of_lt h6 (by omega) (by omega)
        omega
      simp only [hi, if_true, (by omega : i < b.count + data.length)]
      rw [s5 _ hne]
    · by_cases hi2 : i < b.count + data.length
      · have h6 := s4 (i - b.count) (by omega)
        rw [hw, (by omega : b.count + (i - b.count) = i)] at h6
        simp only [hi, hi2, if_true, if_false, h6, List.getD_eq_getElem?_getD]
        rw [List.getElem?_eq_getElem (by omega)]
        rfl
      · simp only [hi, hi2, if_false]
        rw [List.getElem?_eq_none (by omega)]

/-- What Write does, in both cases. -/
theorem RingBuf.write_spec {cap : Nat} {b : RingBuf} (h : b.wf cap) (pol : OvfPolicy) (data : List Byte) :
    (b.write cap pol data).1.wf cap ∧
    (data.length ≤ cap - b.count →
      (b.write cap pol data).2 = false ∧ (b.write cap pol data).1.content cap = b.content cap ++ data) ∧
    (cap - b.count < data.length →
      (b.write cap pol data).2 = true ∧ (b.write cap pol data).1.content cap =
        if pol = .clearAndDrop ∨ data.length > cap then [] else data) := by
  have h0 := h.1
  by_cases hov : data.length > cap - b.count
  · by_cases hdrop : pol = .clearAndDrop ∨ data.length > cap
    · simp only [RingBuf.write, hov, hdrop, if_true]
      exact ⟨RingBuf.wf_clear h, fun h6 => by omega, fun _ => ⟨trivial, rfl⟩⟩
    · simp only [RingBuf.write, hov, hdrop, if_true, if_false]
      have hl : data.length ≤ cap := by
        rw [not_or] at hdrop; omega
      have hs := RingBuf.append_spec (RingBuf.wf_clear h) data (by simpa [RingBuf.clear] using hl)
      exact ⟨hs.1, fun h6 => by omega, fun _ => ⟨trivial, by rw [hs.2.1]; rfl⟩⟩
  · simp only [RingBuf.write, hov, if_false]
    have hs := RingBuf.append_spec h data (by omega)
    exact ⟨hs.1, fun _ => ⟨trivial, hs.2.1⟩, fun h6 => h6.elim⟩

end Sys2Proof.Machine
end

