-- ==== Sys2Proof/Laws/FrameCodec.lean ====
section
/-!
SUPPORT. Sys2Proof/Laws/FrameCodec.lean: what one iteration of the parser can do, and what a whole pass keeps.
-/

namespace Sys2Proof.Machine

@[simp] theorem length_frameBytes (c : Byte) (payload : List Byte) :
    (frameBytes c payload).length = 7 + payload.length := by
  simp [frameBytes]; omega

/-- Bytes that pass the four checks are the encoding of the code and payload they hold. -/
theorem frameBytes_of_checks {l : List Byte} {len : Nat} (hl : 7 + len ≤ l.length)
    (h0 : byteAt l 0 = 0xAA#8) (h1 : byteAt l 1 = 0x55#8) (h3 : (byteAt l 3).toNat = len)
    (h4 : byteAt l (4 + len) = csum (byteAt l 2) (slice l 4 (4 + len)))
    (h5 : byteAt l (5 + len) = 0x0D#8) (h6 : byteAt l (6 + len) = 0x0A#8) :
    (slice l 4 (4 + len)).length = len ∧ l.take (7 + len) = frameBytes (byteAt l 2) (slice l 4 (4 + len)) := by
  match l, hl with
  | a0 :: a1 :: a2 :: a3 :: rest, hl =>
    simp only [List.length_cons] at hl
    have hlen : (rest.take len).length = len := by rw [List.length_take]; omega
    have hs : slice (a0 :: a1 :: a2 :: a3 :: rest) 4 (4 + len) = rest.take len := by
      simp [slice]
    have hat : ∀ k, byteAt (a0 :: a1 :: a2 :: a3 :: rest) (4 + k) = rest.getD k 0 := by
      intro k; simp [byteAt, Nat.add_comm 4 k]
    have e4 : byteAt (a0 :: a1 :: a2 :: a3 :: rest) (4 + len) = rest.getD len 0 := hat len
    have e5 : byteAt (a0 :: a1 :: a2 :: a3 :: rest) (5 + len) = rest.getD (len + 1) 0 := by
      rw [← hat]; congr 1; omega
    have e6 : byteAt (a0 :: a1 :: a2 :: a3 :: rest) (6 + len) = rest.getD (len + 2) 0 := by
      rw [← hat]; congr 1; omega
    have e2 : byteAt (a0 :: a1 :: a2 :: a3 :: rest) 2 = a2 := rfl
    rw [hs, e2]
    refine ⟨hlen, ?_⟩
    have ha3 : a3 = BitVec.ofNat 8 len := by
      rw [← h3]
      show a3 = BitVec.ofNat 8 a3.toNat
      simp
    have hsplit : rest.take (3 + len) = rest.take len ++ [rest.getD len 0, rest.getD (len + 1) 0, rest.getD (len + 2) 0] := by
      apply List.ext_getElem?
      intro i
      rw [List.getElem?_append, hlen]
      simp only [List.getElem?_take]
      by_cases hi : i < len
      · simp [hi, (by omega : i < 3 + len)]
      · obtain ⟨j, rfl⟩ : ∃ j, i = len + j := ⟨i - len, by omega⟩
        match j with
        | 0 => simp [(by omega : len < rest.length)]
        | 1 => simp [(by omega : len + 1 < 3 + len), (by omega : len + 1 < rest.length)]
        | 2 => simp [(by omega : len + 2 < 3 + len), (by omega : len + 2 < rest.length)]
        | j + 3 => simp; omega
    have htake : (a0 :: a1 :: a2 :: a3 :: rest).take (7 + len) = a0 :: a1 :: a2 :: a3 :: rest.take (3 + len) := by
      rw [(by omega : 7 + len = (3 + len) + 1 + 1 + 1 + 1)]; rfl
    rw [htake, hsplit, ← e4, ← e5, ← e6, h4, h5, h6, hs, e2, ha3, frameBytes, hlen,
      (by simpa [byteAt] using h0 : a0 = 0xAA#8), (by simpa [byteAt] using h1 : a1 = 0x55#8)]
    simp

/-- The candidate's payload is a slice of the occupied bytes. -/
theorem candidatePayload_eq {cap len : Nat} {b : RingBuf} (h : 4 + len ≤ b.count) :
    candidatePayload cap len b = slice (b.content cap) 4 (4 + len) := by
  apply List.ext_getElem?
  intro i
  simp only [candidatePayload, slice, List.getElem?_map, List.getElem?_take, List.getElem?_drop]
  by_cases hi : i < len
  · rw [List.getElem?_range hi, Option.map_some, RingBuf.peekByte_eq, List.getD_eq_getElem?_getD,
      RingBuf.getElem?_content, if_pos (by omega), if_pos (by omega)]
    rfl
  · rw [List.getElem?_eq_none (by simpa using hi), if_neg (by omega)]
    rfl

/-- When an iteration stops the pass: fewer than seven bytes, or a header whose frame is not all there (R185, R187). -/
theorem parseOnce_none {cap : Nat} {b : RingBuf} {d : Diag} :
    parseOnce cap b d = none ↔ b.count < 7 ∨
      (b.peekByte cap 0 = 0xAA#8 ∧ b.peekByte cap 1 = 0x55#8 ∧ b.count < 7 + (b.peekByte cap 3).toNat) := by
  simp only [parseOnce]
  split_ifs with h1 h2 h3 h4 h5
  · simp [h1]
  · simp only [false_iff, not_or, not_and, h1, not_false_eq_true, true_and]
    intro ha hb
    exact absurd h2 (by simp [ha, hb])
  · rw [not_or, not_not, not_not] at h2
    simp [h2, h3]
  · simp [h1, h3]
  · simp [h1, h3]
  · simp [h1, h3]

/-- What an iteration that does not stop does: it discards one byte and counts it, or emits one whole frame
(R186, R188-R191). -/
theorem parseOnce_some {cap : Nat} {b b' : RingBuf} {d d' : Diag} {out : List Frame}
    (h : parseOnce cap b d = some (b', d', out)) :
    (out = [] ∧ 7 ≤ b.count ∧ b' = b.skip cap 1 ∧ (d' = d.addHdrSlip ∨ d' = d.addTailFail ∨ d' = d.addCsumFail)) ∨
    ∃ f : Frame, out = [f] ∧ f.wf ∧ 7 + f.payload.length ≤ b.count ∧ d' = d.addFrameOk ∧
      b' = b.skip cap (7 + f.payload.length) ∧ f.raw = (b.content cap).take (7 + f.payload.length) := by
  simp only [parseOnce] at h
  split_ifs at h with h1 h2 h3 h4 h5
  · obtain ⟨rfl, rfl, rfl⟩ := Prod.mk.inj (Option.some.inj h) |>.imp id Prod.mk.inj
    exact .inl ⟨rfl, by omega, rfl, .inl rfl⟩
  · obtain ⟨rfl, rfl, rfl⟩ := Prod.mk.inj (Option.some.inj h) |>.imp id Prod.mk.inj
    exact .inl ⟨rfl, by omega, rfl, .inr (.inl rfl)⟩
  · obtain ⟨rfl, rfl, rfl⟩ := Prod.mk.inj (Option.some.inj h) |>.imp id Prod.mk.inj
    exact .inl ⟨rfl, by omega, rfl, .inr (.inr rfl)⟩
  · obtain ⟨rfl, rfl, rfl⟩ := Prod.mk.inj (Option.some.inj h) |>.imp id Prod.mk.inj
    have hat : ∀ i, b.peekByte cap i = byteAt (b.content cap) i := fun i => RingBuf.peekByte_eq cap i b
    have h255 : (b.peekByte cap 3).toNat ≤ 255 := by
      have := (b.peekByte cap 3).isLt; omega
    rw [not_or, not_not, not_not] at h2 h4
    have hp := candidatePayload_eq (cap := cap) (b := b) (len := (b.peekByte cap 3).toNat) (by omega)
    rw [not_not, hp] at h5
    simp only [hat] at h2 h4 h5 h255 hp
    have hf := frameBytes_of_checks (l := b.content cap) (len := (byteAt (b.content cap) 3).toNat)
      (by simpa [hat] using h3) h2.1 h2.2 rfl h5 h4.1 h4.2
    refine .inr ⟨_, rfl, ?_, ?_, rfl, ?_, ?_⟩
    · refine ⟨?_, ?_⟩
      · simp only [hp, hat, hf.1]; exact h255
      · simp only [hp, hat, RingBuf.read_eq, hf.2]
    · simp only [hp, hat, hf.1]
      simpa [hat] using h3
    · simp only [hp, hat, hf.1, RingBuf.read_eq]
    · simp only [hp, hat, hf.1, RingBuf.read_eq]

/-- A pass keeps the form of the ring buffer. -/
theorem parseLoop_wf {cap : Nat} : ∀ (fuel : Nat) (b : RingBuf) (d : Diag), b.wf cap → (parseLoop cap fuel b d).1.wf cap := by
  intro fuel
  induction fuel with
  | zero => exact fun b d h => h
  | succ n ih =>
    intro b d h
    rw [parseLoop]
    split
    · exact h
    · rename_i b' d' out heq
      refine ih b' d' ?_
      rcases parseOnce_some heq with ⟨-, -, rfl, -⟩ | ⟨f, -, -, -, -, rfl, -⟩
      · exact RingBuf.wf_skip 1 h
      · exact RingBuf.wf_skip _ h

/-- Every frame a pass emits is a frame record (R191). -/
theorem parseLoop_frames {cap : Nat} :
    ∀ (fuel : Nat) (b : RingBuf) (d : Diag), ∀ f ∈ (parseLoop cap fuel b d).2.2, f.wf := by
  intro fuel
  induction fuel with
  | zero => intro b d f hf; simp [parseLoop] at hf
  | succ n ih =>
    intro b d f hf
    rw [parseLoop] at hf
    split at hf
    · simp at hf
    · rename_i b' d' out heq
      rcases List.mem_append.1 hf with hf | hf
      · rcases parseOnce_some heq with ⟨rfl, -⟩ | ⟨g, rfl, hg, -⟩
        · simp at hf
        · rw [List.mem_singleton.1 hf]; exact hg
      · exact ih b' d' f hf

end Sys2Proof.Machine
end

