-- ==== Sys2Proof/Laws/State.lean ====
section
/-!
SUPPORT. Sys2Proof/Laws/State.lean: one lemma per field per update of State and of the records in it, so that no proof
unfolds an update; and what lane, probe and pin read after each update.
-/

namespace Sys2Proof.Machine

/-! ### State.modLane -/

@[simp] theorem State.modLane_params (s : State) (p : Nat) (f : Lane → Lane) : (s.modLane p f).params = s.params := rfl
@[simp] theorem State.modLane_conn (s : State) (p : Nat) (f : Lane → Lane) : (s.modLane p f).conn = s.conn := rfl
@[simp] theorem State.modLane_active (s : State) (p : Nat) (f : Lane → Lane) : (s.modLane p f).active = s.active := rfl
@[simp] theorem State.modLane_lanes (s : State) (p : Nat) (f : Lane → Lane) : (s.modLane p f).lanes = s.lanes.modify p f := rfl
@[simp] theorem State.modLane_probes (s : State) (p : Nat) (f : Lane → Lane) : (s.modLane p f).probes = s.probes := rfl
@[simp] theorem State.modLane_scan (s : State) (p : Nat) (f : Lane → Lane) : (s.modLane p f).scan = s.scan := rfl
@[simp] theorem State.modLane_req (s : State) (p : Nat) (f : Lane → Lane) : (s.modLane p f).req = s.req := rfl
@[simp] theorem State.modLane_ctlOut (s : State) (p : Nat) (f : Lane → Lane) : (s.modLane p f).ctlOut = s.ctlOut := rfl
@[simp] theorem State.modLane_regs (s : State) (p : Nat) (f : Lane → Lane) : (s.modLane p f).regs = s.regs := rfl
@[simp] theorem State.modLane_diag (s : State) (p : Nat) (f : Lane → Lane) : (s.modLane p f).diag = s.diag := rfl
@[simp] theorem State.modLane_now (s : State) (p : Nat) (f : Lane → Lane) : (s.modLane p f).now = s.now := rfl
@[simp] theorem State.modLane_inputs (s : State) (p : Nat) (f : Lane → Lane) : (s.modLane p f).inputs = s.inputs := rfl
@[simp] theorem State.modLane_pins (s : State) (p : Nat) (f : Lane → Lane) : (s.modLane p f).pins = s.pins := rfl
@[simp] theorem State.modLane_delivered (s : State) (p : Nat) (f : Lane → Lane) : (s.modLane p f).delivered = s.delivered := rfl
@[simp] theorem State.modLane_ret (s : State) (p : Nat) (f : Lane → Lane) : (s.modLane p f).ret = s.ret := rfl
@[simp] theorem State.probe_modLane (s : State) (p : Nat) (f : Lane → Lane) (q : Nat) : (s.modLane p f).probe q = s.probe q := rfl
@[simp] theorem State.pin_modLane (s : State) (p : Nat) (f : Lane → Lane) (q : Nat) : (s.modLane p f).pin q = s.pin q := rfl

/-! ### State.modProbe -/

@[simp] theorem State.modProbe_params (s : State) (p : Nat) (f : Probe → Probe) : (s.modProbe p f).params = s.params := rfl
@[simp] theorem State.modProbe_conn (s : State) (p : Nat) (f : Probe → Probe) : (s.modProbe p f).conn = s.conn := rfl
@[simp] theorem State.modProbe_active (s : State) (p : Nat) (f : Probe → Probe) : (s.modProbe p f).active = s.active := rfl
@[simp] theorem State.modProbe_lanes (s : State) (p : Nat) (f : Probe → Probe) : (s.modProbe p f).lanes = s.lanes := rfl
@[simp] theorem State.modProbe_probes (s : State) (p : Nat) (f : Probe → Probe) : (s.modProbe p f).probes = s.probes.modify p f := rfl
@[simp] theorem State.modProbe_scan (s : State) (p : Nat) (f : Probe → Probe) : (s.modProbe p f).scan = s.scan := rfl
@[simp] theorem State.modProbe_req (s : State) (p : Nat) (f : Probe → Probe) : (s.modProbe p f).req = s.req := rfl
@[simp] theorem State.modProbe_ctlOut (s : State) (p : Nat) (f : Probe → Probe) : (s.modProbe p f).ctlOut = s.ctlOut := rfl
@[simp] theorem State.modProbe_regs (s : State) (p : Nat) (f : Probe → Probe) : (s.modProbe p f).regs = s.regs := rfl
@[simp] theorem State.modProbe_diag (s : State) (p : Nat) (f : Probe → Probe) : (s.modProbe p f).diag = s.diag := rfl
@[simp] theorem State.modProbe_now (s : State) (p : Nat) (f : Probe → Probe) : (s.modProbe p f).now = s.now := rfl
@[simp] theorem State.modProbe_inputs (s : State) (p : Nat) (f : Probe → Probe) : (s.modProbe p f).inputs = s.inputs := rfl
@[simp] theorem State.modProbe_pins (s : State) (p : Nat) (f : Probe → Probe) : (s.modProbe p f).pins = s.pins := rfl
@[simp] theorem State.modProbe_delivered (s : State) (p : Nat) (f : Probe → Probe) : (s.modProbe p f).delivered = s.delivered := rfl
@[simp] theorem State.modProbe_ret (s : State) (p : Nat) (f : Probe → Probe) : (s.modProbe p f).ret = s.ret := rfl
@[simp] theorem State.lane_modProbe (s : State) (p : Nat) (f : Probe → Probe) (q : Nat) : (s.modProbe p f).lane q = s.lane q := rfl
@[simp] theorem State.pin_modProbe (s : State) (p : Nat) (f : Probe → Probe) (q : Nat) : (s.modProbe p f).pin q = s.pin q := rfl

/-! ### State.setProbes -/

@[simp] theorem State.setProbes_params (s : State) (ps : List Probe) : (s.setProbes ps).params = s.params := rfl
@[simp] theorem State.setProbes_conn (s : State) (ps : List Probe) : (s.setProbes ps).conn = s.conn := rfl
@[simp] theorem State.setProbes_active (s : State) (ps : List Probe) : (s.setProbes ps).active = s.active := rfl
@[simp] theorem State.setProbes_lanes (s : State) (ps : List Probe) : (s.setProbes ps).lanes = s.lanes := rfl
@[simp] theorem State.setProbes_probes (s : State) (ps : List Probe) : (s.setProbes ps).probes = ps := rfl
@[simp] theorem State.setProbes_scan (s : State) (ps : List Probe) : (s.setProbes ps).scan = s.scan := rfl
@[simp] theorem State.setProbes_req (s : State) (ps : List Probe) : (s.setProbes ps).req = s.req := rfl
@[simp] theorem State.setProbes_ctlOut (s : State) (ps : List Probe) : (s.setProbes ps).ctlOut = s.ctlOut := rfl
@[simp] theorem State.setProbes_regs (s : State) (ps : List Probe) : (s.setProbes ps).regs = s.regs := rfl
@[simp] theorem State.setProbes_diag (s : State) (ps : List Probe) : (s.setProbes ps).diag = s.diag := rfl
@[simp] theorem State.setProbes_now (s : State) (ps : List Probe) : (s.setProbes ps).now = s.now := rfl
@[simp] theorem State.setProbes_inputs (s : State) (ps : List Probe) : (s.setProbes ps).inputs = s.inputs := rfl
@[simp] theorem State.setProbes_pins (s : State) (ps : List Probe) : (s.setProbes ps).pins = s.pins := rfl
@[simp] theorem State.setProbes_delivered (s : State) (ps : List Probe) : (s.setProbes ps).delivered = s.delivered := rfl
@[simp] theorem State.setProbes_ret (s : State) (ps : List Probe) : (s.setProbes ps).ret = s.ret := rfl
@[simp] theorem State.lane_setProbes (s : State) (ps : List Probe) (q : Nat) : (s.setProbes ps).lane q = s.lane q := rfl
@[simp] theorem State.pin_setProbes (s : State) (ps : List Probe) (q : Nat) : (s.setProbes ps).pin q = s.pin q := rfl

/-! ### State.modScan -/

@[simp] theorem State.modScan_params (s : State) (f : Scan → Scan) : (s.modScan f).params = s.params := rfl
@[simp] theorem State.modScan_conn (s : State) (f : Scan → Scan) : (s.modScan f).conn = s.conn := rfl
@[simp] theorem State.modScan_active (s : State) (f : Scan → Scan) : (s.modScan f).active = s.active := rfl
@[simp] theorem State.modScan_lanes (s : State) (f : Scan → Scan) : (s.modScan f).lanes = s.lanes := rfl
@[simp] theorem State.modScan_probes (s : State) (f : Scan → Scan) : (s.modScan f).probes = s.probes := rfl
@[simp] theorem State.modScan_scan (s : State) (f : Scan → Scan) : (s.modScan f).scan = f s.scan := rfl
@[simp] theorem State.modScan_req (s : State) (f : Scan → Scan) : (s.modScan f).req = s.req := rfl
@[simp] theorem State.modScan_ctlOut (s : State) (f : Scan → Scan) : (s.modScan f).ctlOut = s.ctlOut := rfl
@[simp] theorem State.modScan_regs (s : State) (f : Scan → Scan) : (s.modScan f).regs = s.regs := rfl
@[simp] theorem State.modScan_diag (s : State) (f : Scan → Scan) : (s.modScan f).diag = s.diag := rfl
@[simp] theorem State.modScan_now (s : State) (f : Scan → Scan) : (s.modScan f).now = s.now := rfl
@[simp] theorem State.modScan_inputs (s : State) (f : Scan → Scan) : (s.modScan f).inputs = s.inputs := rfl
@[simp] theorem State.modScan_pins (s : State) (f : Scan → Scan) : (s.modScan f).pins = s.pins := rfl
@[simp] theorem State.modScan_delivered (s : State) (f : Scan → Scan) : (s.modScan f).delivered = s.delivered := rfl
@[simp] theorem State.modScan_ret (s : State) (f : Scan → Scan) : (s.modScan f).ret = s.ret := rfl
@[simp] theorem State.lane_modScan (s : State) (f : Scan → Scan) (q : Nat) : (s.modScan f).lane q = s.lane q := rfl
@[simp] theorem State.probe_modScan (s : State) (f : Scan → Scan) (q : Nat) : (s.modScan f).probe q = s.probe q := rfl
@[simp] theorem State.pin_modScan (s : State) (f : Scan → Scan) (q : Nat) : (s.modScan f).pin q = s.pin q := rfl

/-! ### State.modReq -/

@[simp] theorem State.modReq_params (s : State) (f : Req → Req) : (s.modReq f).params = s.params := rfl
@[simp] theorem State.modReq_conn (s : State) (f : Req → Req) : (s.modReq f).conn = s.conn := rfl
@[simp] theorem State.modReq_active (s : State) (f : Req → Req) : (s.modReq f).active = s.active := rfl
@[simp] theorem State.modReq_lanes (s : State) (f : Req → Req) : (s.modReq f).lanes = s.lanes := rfl
@[simp] theorem State.modReq_probes (s : State) (f : Req → Req) : (s.modReq f).probes = s.probes := rfl
@[simp] theorem State.modReq_scan (s : State) (f : Req → Req) : (s.modReq f).scan = s.scan := rfl
@[simp] theorem State.modReq_req (s : State) (f : Req → Req) : (s.modReq f).req = f s.req := rfl
@[simp] theorem State.modReq_ctlOut (s : State) (f : Req → Req) : (s.modReq f).ctlOut = s.ctlOut := rfl
@[simp] theorem State.modReq_regs (s : State) (f : Req → Req) : (s.modReq f).regs = s.regs := rfl
@[simp] theorem State.modReq_diag (s : State) (f : Req → Req) : (s.modReq f).diag = s.diag := rfl
@[simp] theorem State.modReq_now (s : State) (f : Req → Req) : (s.modReq f).now = s.now := rfl
@[simp] theorem State.modReq_inputs (s : State) (f : Req → Req) : (s.modReq f).inputs = s.inputs := rfl
@[simp] theorem State.modReq_pins (s : State) (f : Req → Req) : (s.modReq f).pins = s.pins := rfl
@[simp] theorem State.modReq_delivered (s : State) (f : Req → Req) : (s.modReq f).delivered = s.delivered := rfl
@[simp] theorem State.modReq_ret (s : State) (f : Req → Req) : (s.modReq f).ret = s.ret := rfl
@[simp] theorem State.lane_modReq (s : State) (f : Req → Req) (q : Nat) : (s.modReq f).lane q = s.lane q := rfl
@[simp] theorem State.probe_modReq (s : State) (f : Req → Req) (q : Nat) : (s.modReq f).probe q = s.probe q := rfl
@[simp] theorem State.pin_modReq (s : State) (f : Req → Req) (q : Nat) : (s.modReq f).pin q = s.pin q := rfl

/-! ### State.modRegs -/

@[simp] theorem State.modRegs_params (s : State) (f : Regs → Regs) : (s.modRegs f).params = s.params := rfl
@[simp] theorem State.modRegs_conn (s : State) (f : Regs → Regs) : (s.modRegs f).conn = s.conn := rfl
@[simp] theorem State.modRegs_active (s : State) (f : Regs → Regs) : (s.modRegs f).active = s.active := rfl
@[simp] theorem State.modRegs_lanes (s : State) (f : Regs → Regs) : (s.modRegs f).lanes = s.lanes := rfl
@[simp] theorem State.modRegs_probes (s : State) (f : Regs → Regs) : (s.modRegs f).probes = s.probes := rfl
@[simp] theorem State.modRegs_scan (s : State) (f : Regs → Regs) : (s.modRegs f).scan = s.scan := rfl
@[simp] theorem State.modRegs_req (s : State) (f : Regs → Regs) : (s.modRegs f).req = s.req := rfl
@[simp] theorem State.modRegs_ctlOut (s : State) (f : Regs → Regs) : (s.modRegs f).ctlOut = s.ctlOut := rfl
@[simp] theorem State.modRegs_regs (s : State) (f : Regs → Regs) : (s.modRegs f).regs = f s.regs := rfl
@[simp] theorem State.modRegs_diag (s : State) (f : Regs → Regs) : (s.modRegs f).diag = s.diag := rfl
@[simp] theorem State.modRegs_now (s : State) (f : Regs → Regs) : (s.modRegs f).now = s.now := rfl
@[simp] theorem State.modRegs_inputs (s : State) (f : Regs → Regs) : (s.modRegs f).inputs = s.inputs := rfl
@[simp] theorem State.modRegs_pins (s : State) (f : Regs → Regs) : (s.modRegs f).pins = s.pins := rfl
@[simp] theorem State.modRegs_delivered (s : State) (f : Regs → Regs) : (s.modRegs f).delivered = s.delivered := rfl
@[simp] theorem State.modRegs_ret (s : State) (f : Regs → Regs) : (s.modRegs f).ret = s.ret := rfl
@[simp] theorem State.lane_modRegs (s : State) (f : Regs → Regs) (q : Nat) : (s.modRegs f).lane q = s.lane q := rfl
@[simp] theorem State.probe_modRegs (s : State) (f : Regs → Regs) (q : Nat) : (s.modRegs f).probe q = s.probe q := rfl
@[simp] theorem State.pin_modRegs (s : State) (f : Regs → Regs) (q : Nat) : (s.modRegs f).pin q = s.pin q := rfl

/-! ### State.setDiag -/

@[simp] theorem State.setDiag_params (s : State) (d : Diag) : (s.setDiag d).params = s.params := rfl
@[simp] theorem State.setDiag_conn (s : State) (d : Diag) : (s.setDiag d).conn = s.conn := rfl
@[simp] theorem State.setDiag_active (s : State) (d : Diag) : (s.setDiag d).active = s.active := rfl
@[simp] theorem State.setDiag_lanes (s : State) (d : Diag) : (s.setDiag d).lanes = s.lanes := rfl
@[simp] theorem State.setDiag_probes (s : State) (d : Diag) : (s.setDiag d).probes = s.probes := rfl
@[simp] theorem State.setDiag_scan (s : State) (d : Diag) : (s.setDiag d).scan = s.scan := rfl
@[simp] theorem State.setDiag_req (s : State) (d : Diag) : (s.setDiag d).req = s.req := rfl
@[simp] theorem State.setDiag_ctlOut (s : State) (d : Diag) : (s.setDiag d).ctlOut = s.ctlOut := rfl
@[simp] theorem State.setDiag_regs (s : State) (d : Diag) : (s.setDiag d).regs = s.regs := rfl
@[simp] theorem State.setDiag_diag (s : State) (d : Diag) : (s.setDiag d).diag = d := rfl
@[simp] theorem State.setDiag_now (s : State) (d : Diag) : (s.setDiag d).now = s.now := rfl
@[simp] theorem State.setDiag_inputs (s : State) (d : Diag) : (s.setDiag d).inputs = s.inputs := rfl
@[simp] theorem State.setDiag_pins (s : State) (d : Diag) : (s.setDiag d).pins = s.pins := rfl
@[simp] theorem State.setDiag_delivered (s : State) (d : Diag) : (s.setDiag d).delivered = s.delivered := rfl
@[simp] theorem State.setDiag_ret (s : State) (d : Diag) : (s.setDiag d).ret = s.ret := rfl
@[simp] theorem State.lane_setDiag (s : State) (d : Diag) (q : Nat) : (s.setDiag d).lane q = s.lane q := rfl
@[simp] theorem State.probe_setDiag (s : State) (d : Diag) (q : Nat) : (s.setDiag d).probe q = s.probe q := rfl
@[simp] theorem State.pin_setDiag (s : State) (d : Diag) (q : Nat) : (s.setDiag d).pin q = s.pin q := rfl

/-! ### State.setConn -/

@[simp] theorem State.setConn_params (s : State) (c : Conn) (a : Nat) : (s.setConn c a).params = s.params := rfl
@[simp] theorem State.setConn_conn (s : State) (c : Conn) (a : Nat) : (s.setConn c a).conn = c := rfl
@[simp] theorem State.setConn_active (s : State) (c : Conn) (a : Nat) : (s.setConn c a).active = a := rfl
@[simp] theorem State.setConn_lanes (s : State) (c : Conn) (a : Nat) : (s.setConn c a).lanes = s.lanes := rfl
@[simp] theorem State.setConn_probes (s : State) (c : Conn) (a : Nat) : (s.setConn c a).probes = s.probes := rfl
@[simp] theorem State.setConn_scan (s : State) (c : Conn) (a : Nat) : (s.setConn c a).scan = s.scan := rfl
@[simp] theorem State.setConn_req (s : State) (c : Conn) (a : Nat) : (s.setConn c a).req = s.req := rfl
@[simp] theorem State.setConn_ctlOut (s : State) (c : Conn) (a : Nat) : (s.setConn c a).ctlOut = s.ctlOut := rfl
@[simp] theorem State.setConn_regs (s : State) (c : Conn) (a : Nat) : (s.setConn c a).regs = s.regs := rfl
@[simp] theorem State.setConn_diag (s : State) (c : Conn) (a : Nat) : (s.setConn c a).diag = s.diag := rfl
@[simp] theorem State.setConn_now (s : State) (c : Conn) (a : Nat) : (s.setConn c a).now = s.now := rfl
@[simp] theorem State.setConn_inputs (s : State) (c : Conn) (a : Nat) : (s.setConn c a).inputs = s.inputs := rfl
@[simp] theorem State.setConn_pins (s : State) (c : Conn) (a : Nat) : (s.setConn c a).pins = s.pins := rfl
@[simp] theorem State.setConn_delivered (s : State) (c : Conn) (a : Nat) : (s.setConn c a).delivered = s.delivered := rfl
@[simp] theorem State.setConn_ret (s : State) (c : Conn) (a : Nat) : (s.setConn c a).ret = s.ret := rfl
@[simp] theorem State.lane_setConn (s : State) (c : Conn) (a : Nat) (q : Nat) : (s.setConn c a).lane q = s.lane q := rfl
@[simp] theorem State.probe_setConn (s : State) (c : Conn) (a : Nat) (q : Nat) : (s.setConn c a).probe q = s.probe q := rfl
@[simp] theorem State.pin_setConn (s : State) (c : Conn) (a : Nat) (q : Nat) : (s.setConn c a).pin q = s.pin q := rfl

/-! ### State.post -/

@[simp] theorem State.post_params (s : State) (e : Event) : (s.post e).params = s.params := rfl
@[simp] theorem State.post_conn (s : State) (e : Event) : (s.post e).conn = s.conn := rfl
@[simp] theorem State.post_active (s : State) (e : Event) : (s.post e).active = s.active := rfl
@[simp] theorem State.post_lanes (s : State) (e : Event) : (s.post e).lanes = s.lanes := rfl
@[simp] theorem State.post_probes (s : State) (e : Event) : (s.post e).probes = s.probes := rfl
@[simp] theorem State.post_scan (s : State) (e : Event) : (s.post e).scan = s.scan := rfl
@[simp] theorem State.post_req (s : State) (e : Event) : (s.post e).req = s.req := rfl
@[simp] theorem State.post_ctlOut (s : State) (e : Event) : (s.post e).ctlOut = s.ctlOut ++ [e] := rfl
@[simp] theorem State.post_regs (s : State) (e : Event) : (s.post e).regs = s.regs := rfl
@[simp] theorem State.post_diag (s : State) (e : Event) : (s.post e).diag = s.diag := rfl
@[simp] theorem State.post_now (s : State) (e : Event) : (s.post e).now = s.now := rfl
@[simp] theorem State.post_inputs (s : State) (e : Event) : (s.post e).inputs = s.inputs := rfl
@[simp] theorem State.post_pins (s : State) (e : Event) : (s.post e).pins = s.pins := rfl
@[simp] theorem State.post_delivered (s : State) (e : Event) : (s.post e).delivered = s.delivered := rfl
@[simp] theorem State.post_ret (s : State) (e : Event) : (s.post e).ret = s.ret := rfl
@[simp] theorem State.lane_post (s : State) (e : Event) (q : Nat) : (s.post e).lane q = s.lane q := rfl
@[simp] theorem State.probe_post (s : State) (e : Event) (q : Nat) : (s.post e).probe q = s.probe q := rfl
@[simp] theorem State.pin_post (s : State) (e : Event) (q : Nat) : (s.post e).pin q = s.pin q := rfl

/-! ### State.setRet -/

@[simp] theorem State.setRet_params (s : State) (r : Ret) : (s.setRet r).params = s.params := rfl
@[simp] theorem State.setRet_conn (s : State) (r : Ret) : (s.setRet r).conn = s.conn := rfl
@[simp] theorem State.setRet_active (s : State) (r : Ret) : (s.setRet r).active = s.active := rfl
@[simp] theorem State.setRet_lanes (s : State) (r : Ret) : (s.setRet r).lanes = s.lanes := rfl
@[simp] theorem State.setRet_probes (s : State) (r : Ret) : (s.setRet r).probes = s.probes := rfl
@[simp] theorem State.setRet_scan (s : State) (r : Ret) : (s.setRet r).scan = s.scan := rfl
@[simp] theorem State.setRet_req (s : State) (r : Ret) : (s.setRet r).req = s.req := rfl
@[simp] theorem State.setRet_ctlOut (s : State) (r : Ret) : (s.setRet r).ctlOut = s.ctlOut := rfl
@[simp] theorem State.setRet_regs (s : State) (r : Ret) : (s.setRet r).regs = s.regs := rfl
@[simp] theorem State.setRet_diag (s : State) (r : Ret) : (s.setRet r).diag = s.diag := rfl
@[simp] theorem State.setRet_now (s : State) (r : Ret) : (s.setRet r).now = s.now := rfl
@[simp] theorem State.setRet_inputs (s : State) (r : Ret) : (s.setRet r).inputs = s.inputs := rfl
@[simp] theorem State.setRet_pins (s : State) (r : Ret) : (s.setRet r).pins = s.pins := rfl
@[simp] theorem State.setRet_delivered (s : State) (r : Ret) : (s.setRet r).delivered = s.delivered := rfl
@[simp] theorem State.setRet_ret (s : State) (r : Ret) : (s.setRet r).ret = r := rfl
@[simp] theorem State.lane_setRet (s : State) (r : Ret) (q : Nat) : (s.setRet r).lane q = s.lane q := rfl
@[simp] theorem State.probe_setRet (s : State) (r : Ret) (q : Nat) : (s.setRet r).probe q = s.probe q := rfl
@[simp] theorem State.pin_setRet (s : State) (r : Ret) (q : Nat) : (s.setRet r).pin q = s.pin q := rfl

/-! ### State.setRb -/

@[simp] theorem State.setRb_params (s : State) (p : Nat) (b : RingBuf) : (s.setRb p b).params = s.params := rfl
@[simp] theorem State.setRb_conn (s : State) (p : Nat) (b : RingBuf) : (s.setRb p b).conn = s.conn := rfl
@[simp] theorem State.setRb_active (s : State) (p : Nat) (b : RingBuf) : (s.setRb p b).active = s.active := rfl
@[simp] theorem State.setRb_lanes (s : State) (p : Nat) (b : RingBuf) : (s.setRb p b).lanes = s.lanes.modify p (fun l => { l with rb := b }) := rfl
@[simp] theorem State.setRb_probes (s : State) (p : Nat) (b : RingBuf) : (s.setRb p b).probes = s.probes := rfl
@[simp] theorem State.setRb_scan (s : State) (p : Nat) (b : RingBuf) : (s.setRb p b).scan = s.scan := rfl
@[simp] theorem State.setRb_req (s : State) (p : Nat) (b : RingBuf) : (s.setRb p b).req = s.req := rfl
@[simp] theorem State.setRb_ctlOut (s : State) (p : Nat) (b : RingBuf) : (s.setRb p b).ctlOut = s.ctlOut := rfl
@[simp] theorem State.setRb_regs (s : State) (p : Nat) (b : RingBuf) : (s.setRb p b).regs = s.regs := rfl
@[simp] theorem State.setRb_diag (s : State) (p : Nat) (b : RingBuf) : (s.setRb p b).diag = s.diag := rfl
@[simp] theorem State.setRb_now (s : State) (p : Nat) (b : RingBuf) : (s.setRb p b).now = s.now := rfl
@[simp] theorem State.setRb_inputs (s : State) (p : Nat) (b : RingBuf) : (s.setRb p b).inputs = s.inputs := rfl
@[simp] theorem State.setRb_pins (s : State) (p : Nat) (b : RingBuf) : (s.setRb p b).pins = s.pins := rfl
@[simp] theorem State.setRb_delivered (s : State) (p : Nat) (b : RingBuf) : (s.setRb p b).delivered = s.delivered := rfl
@[simp] theorem State.setRb_ret (s : State) (p : Nat) (b : RingBuf) : (s.setRb p b).ret = s.ret := rfl
@[simp] theorem State.probe_setRb (s : State) (p : Nat) (b : RingBuf) (q : Nat) : (s.setRb p b).probe q = s.probe q := rfl
@[simp] theorem State.pin_setRb (s : State) (p : Nat) (b : RingBuf) (q : Nat) : (s.setRb p b).pin q = s.pin q := rfl

/-! ### State.deliver -/

@[simp] theorem State.deliver_params (s : State) (e : Event) : (s.deliver e).params = s.params := rfl
@[simp] theorem State.deliver_conn (s : State) (e : Event) : (s.deliver e).conn = s.conn := rfl
@[simp] theorem State.deliver_active (s : State) (e : Event) : (s.deliver e).active = s.active := rfl
@[simp] theorem State.deliver_lanes (s : State) (e : Event) : (s.deliver e).lanes = s.lanes := rfl
@[simp] theorem State.deliver_probes (s : State) (e : Event) : (s.deliver e).probes = s.probes := rfl
@[simp] theorem State.deliver_scan (s : State) (e : Event) : (s.deliver e).scan = s.scan := rfl
@[simp] theorem State.deliver_req (s : State) (e : Event) : (s.deliver e).req = s.req := rfl
@[simp] theorem State.deliver_ctlOut (s : State) (e : Event) : (s.deliver e).ctlOut = s.ctlOut := rfl
@[simp] theorem State.deliver_regs (s : State) (e : Event) : (s.deliver e).regs = s.regs := rfl
@[simp] theorem State.deliver_diag (s : State) (e : Event) : (s.deliver e).diag = s.diag := rfl
@[simp] theorem State.deliver_now (s : State) (e : Event) : (s.deliver e).now = s.now := rfl
@[simp] theorem State.deliver_inputs (s : State) (e : Event) : (s.deliver e).inputs = s.inputs := rfl
@[simp] theorem State.deliver_pins (s : State) (e : Event) : (s.deliver e).pins = s.pins := rfl
@[simp] theorem State.deliver_delivered (s : State) (e : Event) : (s.deliver e).delivered = s.delivered ++ [e] := rfl
@[simp] theorem State.deliver_ret (s : State) (e : Event) : (s.deliver e).ret = s.ret := rfl
@[simp] theorem State.lane_deliver (s : State) (e : Event) (q : Nat) : (s.deliver e).lane q = s.lane q := rfl
@[simp] theorem State.probe_deliver (s : State) (e : Event) (q : Nat) : (s.deliver e).probe q = s.probe q := rfl
@[simp] theorem State.pin_deliver (s : State) (e : Event) (q : Nat) : (s.deliver e).pin q = s.pin q := rfl

/-! ### Reading a lane or a probe after it was changed -/

/-- An update of an absent lane changes nothing; of a present one, that lane alone. -/
theorem State.lane_modLane (s : State) (p q : Nat) (f : Lane → Lane) :
    (s.modLane p f).lane q = if p = q ∧ q < s.lanes.length then f (s.lane q) else s.lane q := by
  simp only [State.lane, State.modLane, List.getD_eq_getElem?_getD, List.getElem?_modify]
  by_cases hq : q < s.lanes.length
  · by_cases hp : p = q <;> simp [hp, hq]
  · simp [hq]

@[simp] theorem State.lane_modLane_ne (s : State) {p q : Nat} (f : Lane → Lane) (h : q ≠ p) :
    (s.modLane p f).lane q = s.lane q := by
  simp [State.lane_modLane, Ne.symm h]

@[simp] theorem State.lane_modLane_same (s : State) {p : Nat} (f : Lane → Lane) (h : p < s.lanes.length) :
    (s.modLane p f).lane p = f (s.lane p) := by
  simp [State.lane_modLane, h]

/-- The same for a probe. -/
theorem State.probe_modProbe (s : State) (p q : Nat) (f : Probe → Probe) :
    (s.modProbe p f).probe q = if p = q ∧ q < s.probes.length then f (s.probe q) else s.probe q := by
  simp only [State.probe, State.modProbe, List.getD_eq_getElem?_getD, List.getElem?_modify]
  by_cases hq : q < s.probes.length
  · by_cases hp : p = q <;> simp [hp, hq]
  · simp [hq]

@[simp] theorem State.probe_modProbe_ne (s : State) {p q : Nat} (f : Probe → Probe) (h : q ≠ p) :
    (s.modProbe p f).probe q = s.probe q := by
  simp [State.probe_modProbe, Ne.symm h]

@[simp] theorem State.probe_modProbe_same (s : State) {p : Nat} (f : Probe → Probe) (h : p < s.probes.length) :
    (s.modProbe p f).probe p = f (s.probe p) := by
  simp [State.probe_modProbe, h]

@[simp] theorem State.lane_setRb_ne (s : State) {p q : Nat} (b : RingBuf) (h : q ≠ p) :
    (s.setRb p b).lane q = s.lane q := State.lane_modLane_ne s _ h

@[simp] theorem State.lane_setRb_same (s : State) {p : Nat} (b : RingBuf) (h : p < s.lanes.length) :
    (s.setRb p b).lane p = { s.lane p with rb := b } := State.lane_modLane_same s _ h

/-- Two updates of one lane are one update. -/
theorem State.modLane_modLane (s : State) (p : Nat) (f g : Lane → Lane) :
    (s.modLane p f).modLane p g = s.modLane p (g ∘ f) := by
  simp [State.modLane, List.modify_modify_eq]

/-- Storing the ring buffer that is there changes nothing. -/
theorem State.setRb_self (s : State) (p : Nat) : s.setRb p (s.lane p).rb = s := by
  have h : s.lanes.modify p (fun l => { l with rb := (s.lane p).rb }) = s.lanes := by
    apply List.ext_getElem?
    intro i
    by_cases hi : i < s.lanes.length
    · by_cases hp : p = i
      · subst hp; simp [State.lane, hi]
      · simp [hp, hi]
    · simp [hi]
  simp [State.setRb, State.modLane, h]

/-! ### RingBuf.clear -/

@[simp] theorem RingBuf.clear_mem (b : RingBuf) : (RingBuf.clear b).mem = b.mem := rfl
@[simp] theorem RingBuf.clear_r (b : RingBuf) : (RingBuf.clear b).r = 0 := rfl
@[simp] theorem RingBuf.clear_w (b : RingBuf) : (RingBuf.clear b).w = 0 := rfl
@[simp] theorem RingBuf.clear_count (b : RingBuf) : (RingBuf.clear b).count = 0 := rfl

/-! ### Lane.stopped -/

@[simp] theorem Lane.stopped_role (cut : Nat) (l : Lane) : (Lane.stopped cut l).role = .closed := rfl
@[simp] theorem Lane.stopped_baud (cut : Nat) (l : Lane) : (Lane.stopped cut l).baud = l.baud := rfl
@[simp] theorem Lane.stopped_readTo (cut : Nat) (l : Lane) : (Lane.stopped cut l).readTo = l.readTo := rfl
@[simp] theorem Lane.stopped_writeTo (cut : Nat) (l : Lane) : (Lane.stopped cut l).writeTo = l.writeTo := rfl
@[simp] theorem Lane.stopped_rb (cut : Nat) (l : Lane) : (Lane.stopped cut l).rb = l.rb.clear := rfl
@[simp] theorem Lane.stopped_stg (cut : Nat) (l : Lane) : (Lane.stopped cut l).stg = [] := rfl
@[simp] theorem Lane.stopped_rx (cut : Nat) (l : Lane) : (Lane.stopped cut l).rx = .stopped := rfl
@[simp] theorem Lane.stopped_txq (cut : Nat) (l : Lane) : (Lane.stopped cut l).txq = [] := rfl
@[simp] theorem Lane.stopped_txStart (cut : Nat) (l : Lane) : (Lane.stopped cut l).txStart = l.txStart := rfl
@[simp] theorem Lane.stopped_wt (cut : Nat) (l : Lane) : (Lane.stopped cut l).wt = false := rfl
@[simp] theorem Lane.stopped_txd (cut : Nat) (l : Lane) : (Lane.stopped cut l).txd = l.txd ++ l.cutTx cut := rfl

/-! ### Lane.opened -/

@[simp] theorem Lane.opened_role (role : Role) (baud : Word) (g : Regs) (l : Lane) : (Lane.opened role baud g l).role = role := rfl
@[simp] theorem Lane.opened_baud (role : Role) (baud : Word) (g : Regs) (l : Lane) : (Lane.opened role baud g l).baud = baud := rfl
@[simp] theorem Lane.opened_readTo (role : Role) (baud : Word) (g : Regs) (l : Lane) : (Lane.opened role baud g l).readTo = g.readTo := rfl
@[simp] theorem Lane.opened_writeTo (role : Role) (baud : Word) (g : Regs) (l : Lane) : (Lane.opened role baud g l).writeTo = g.writeTo := rfl
@[simp] theorem Lane.opened_rb (role : Role) (baud : Word) (g : Regs) (l : Lane) : (Lane.opened role baud g l).rb = l.rb.clear := rfl
@[simp] theorem Lane.opened_stg (role : Role) (baud : Word) (g : Regs) (l : Lane) : (Lane.opened role baud g l).stg = [] := rfl
@[simp] theorem Lane.opened_rx (role : Role) (baud : Word) (g : Regs) (l : Lane) : (Lane.opened role baud g l).rx = .idle := rfl
@[simp] theorem Lane.opened_txq (role : Role) (baud : Word) (g : Regs) (l : Lane) : (Lane.opened role baud g l).txq = [] := rfl
@[simp] theorem Lane.opened_txStart (role : Role) (baud : Word) (g : Regs) (l : Lane) : (Lane.opened role baud g l).txStart = l.txStart := rfl
@[simp] theorem Lane.opened_wt (role : Role) (baud : Word) (g : Regs) (l : Lane) : (Lane.opened role baud g l).wt = false := rfl
@[simp] theorem Lane.opened_txd (role : Role) (baud : Word) (g : Regs) (l : Lane) : (Lane.opened role baud g l).txd = l.txd := rfl

/-! ### Lane.headFailed -/

@[simp] theorem Lane.headFailed_role (cut : Nat) (l : Lane) : (Lane.headFailed cut l).role = l.role := rfl
@[simp] theorem Lane.headFailed_baud (cut : Nat) (l : Lane) : (Lane.headFailed cut l).baud = l.baud := rfl
@[simp] theorem Lane.headFailed_readTo (cut : Nat) (l : Lane) : (Lane.headFailed cut l).readTo = l.readTo := rfl
@[simp] theorem Lane.headFailed_writeTo (cut : Nat) (l : Lane) : (Lane.headFailed cut l).writeTo = l.writeTo := rfl
@[simp] theorem Lane.headFailed_rb (cut : Nat) (l : Lane) : (Lane.headFailed cut l).rb = l.rb := rfl
@[simp] theorem Lane.headFailed_stg (cut : Nat) (l : Lane) : (Lane.headFailed cut l).stg = l.stg := rfl
@[simp] theorem Lane.headFailed_rx (cut : Nat) (l : Lane) : (Lane.headFailed cut l).rx = l.rx := rfl
@[simp] theorem Lane.headFailed_txq (cut : Nat) (l : Lane) : (Lane.headFailed cut l).txq = l.txq.tail := rfl
@[simp] theorem Lane.headFailed_txStart (cut : Nat) (l : Lane) : (Lane.headFailed cut l).txStart = l.txStart := rfl
@[simp] theorem Lane.headFailed_wt (cut : Nat) (l : Lane) : (Lane.headFailed cut l).wt = false := rfl
@[simp] theorem Lane.headFailed_txd (cut : Nat) (l : Lane) : (Lane.headFailed cut l).txd = l.txd ++ l.cutTx cut := rfl

/-! ### Lane.afterReset -/

@[simp] theorem Lane.afterReset_role (cut : Nat) (l : Lane) : (Lane.afterReset cut l).role = .closed := rfl
@[simp] theorem Lane.afterReset_baud (cut : Nat) (l : Lane) : (Lane.afterReset cut l).baud = 0 := rfl
@[simp] theorem Lane.afterReset_readTo (cut : Nat) (l : Lane) : (Lane.afterReset cut l).readTo = 0 := rfl
@[simp] theorem Lane.afterReset_writeTo (cut : Nat) (l : Lane) : (Lane.afterReset cut l).writeTo = 0 := rfl
@[simp] theorem Lane.afterReset_rb (cut : Nat) (l : Lane) : (Lane.afterReset cut l).rb = l.rb.clear := rfl
@[simp] theorem Lane.afterReset_stg (cut : Nat) (l : Lane) : (Lane.afterReset cut l).stg = [] := rfl
@[simp] theorem Lane.afterReset_rx (cut : Nat) (l : Lane) : (Lane.afterReset cut l).rx = .stopped := rfl
@[simp] theorem Lane.afterReset_txq (cut : Nat) (l : Lane) : (Lane.afterReset cut l).txq = [] := rfl
@[simp] theorem Lane.afterReset_txStart (cut : Nat) (l : Lane) : (Lane.afterReset cut l).txStart = 0 := rfl
@[simp] theorem Lane.afterReset_wt (cut : Nat) (l : Lane) : (Lane.afterReset cut l).wt = false := rfl
@[simp] theorem Lane.afterReset_txd (cut : Nat) (l : Lane) : (Lane.afterReset cut l).txd = l.txd ++ l.cutTx cut := rfl

/-! ### Regs.withConfig -/

@[simp] theorem Regs.withConfig_baud (c : List Byte) (g : Regs) : (Regs.withConfig c g).baud = g.baud := rfl
@[simp] theorem Regs.withConfig_readTo (c : List Byte) (g : Regs) : (Regs.withConfig c g).readTo = g.readTo := rfl
@[simp] theorem Regs.withConfig_writeTo (c : List Byte) (g : Regs) : (Regs.withConfig c g).writeTo = g.writeTo := rfl
@[simp] theorem Regs.withConfig_probeTo (c : List Byte) (g : Regs) : (Regs.withConfig c g).probeTo = g.probeTo := rfl
@[simp] theorem Regs.withConfig_scanEligible (c : List Byte) (g : Regs) : (Regs.withConfig c g).scanEligible = g.scanEligible := rfl
@[simp] theorem Regs.withConfig_scanHits (c : List Byte) (g : Regs) : (Regs.withConfig c g).scanHits = g.scanHits := rfl
@[simp] theorem Regs.withConfig_lastConfig (c : List Byte) (g : Regs) : (Regs.withConfig c g).lastConfig = c := rfl
@[simp] theorem Regs.withConfig_lastStatus (c : List Byte) (g : Regs) : (Regs.withConfig c g).lastStatus = g.lastStatus := rfl
@[simp] theorem Regs.withConfig_cfgValid (c : List Byte) (g : Regs) : (Regs.withConfig c g).cfgValid = true := rfl
@[simp] theorem Regs.withConfig_stsValid (c : List Byte) (g : Regs) : (Regs.withConfig c g).stsValid = g.stsValid := rfl

/-! ### Regs.withStatus -/

@[simp] theorem Regs.withStatus_baud (c : List Byte) (g : Regs) : (Regs.withStatus c g).baud = g.baud := rfl
@[simp] theorem Regs.withStatus_readTo (c : List Byte) (g : Regs) : (Regs.withStatus c g).readTo = g.readTo := rfl
@[simp] theorem Regs.withStatus_writeTo (c : List Byte) (g : Regs) : (Regs.withStatus c g).writeTo = g.writeTo := rfl
@[simp] theorem Regs.withStatus_probeTo (c : List Byte) (g : Regs) : (Regs.withStatus c g).probeTo = g.probeTo := rfl
@[simp] theorem Regs.withStatus_scanEligible (c : List Byte) (g : Regs) : (Regs.withStatus c g).scanEligible = g.scanEligible := rfl
@[simp] theorem Regs.withStatus_scanHits (c : List Byte) (g : Regs) : (Regs.withStatus c g).scanHits = g.scanHits := rfl
@[simp] theorem Regs.withStatus_lastConfig (c : List Byte) (g : Regs) : (Regs.withStatus c g).lastConfig = g.lastConfig := rfl
@[simp] theorem Regs.withStatus_lastStatus (c : List Byte) (g : Regs) : (Regs.withStatus c g).lastStatus = c := rfl
@[simp] theorem Regs.withStatus_cfgValid (c : List Byte) (g : Regs) : (Regs.withStatus c g).cfgValid = g.cfgValid := rfl
@[simp] theorem Regs.withStatus_stsValid (c : List Byte) (g : Regs) : (Regs.withStatus c g).stsValid = true := rfl

/-! ### Regs.invalidate -/

@[simp] theorem Regs.invalidate_baud (g : Regs) : (Regs.invalidate g).baud = g.baud := rfl
@[simp] theorem Regs.invalidate_readTo (g : Regs) : (Regs.invalidate g).readTo = g.readTo := rfl
@[simp] theorem Regs.invalidate_writeTo (g : Regs) : (Regs.invalidate g).writeTo = g.writeTo := rfl
@[simp] theorem Regs.invalidate_probeTo (g : Regs) : (Regs.invalidate g).probeTo = g.probeTo := rfl
@[simp] theorem Regs.invalidate_scanEligible (g : Regs) : (Regs.invalidate g).scanEligible = g.scanEligible := rfl
@[simp] theorem Regs.invalidate_scanHits (g : Regs) : (Regs.invalidate g).scanHits = g.scanHits := rfl
@[simp] theorem Regs.invalidate_lastConfig (g : Regs) : (Regs.invalidate g).lastConfig = g.lastConfig := rfl
@[simp] theorem Regs.invalidate_lastStatus (g : Regs) : (Regs.invalidate g).lastStatus = g.lastStatus := rfl
@[simp] theorem Regs.invalidate_cfgValid (g : Regs) : (Regs.invalidate g).cfgValid = false := rfl
@[simp] theorem Regs.invalidate_stsValid (g : Regs) : (Regs.invalidate g).stsValid = false := rfl

/-! ### Diag.addFrameOk -/

@[simp] theorem Diag.addFrameOk_framesOk (d : Diag) : (Diag.addFrameOk d).framesOk = d.framesOk + 1 := rfl
@[simp] theorem Diag.addFrameOk_hdrSlip (d : Diag) : (Diag.addFrameOk d).hdrSlip = d.hdrSlip := rfl
@[simp] theorem Diag.addFrameOk_tailFail (d : Diag) : (Diag.addFrameOk d).tailFail = d.tailFail := rfl
@[simp] theorem Diag.addFrameOk_csumFail (d : Diag) : (Diag.addFrameOk d).csumFail = d.csumFail := rfl
@[simp] theorem Diag.addFrameOk_ovfClear (d : Diag) : (Diag.addFrameOk d).ovfClear = d.ovfClear := rfl
@[simp] theorem Diag.addFrameOk_rxOverrun (d : Diag) : (Diag.addFrameOk d).rxOverrun = d.rxOverrun := rfl

/-! ### Diag.addHdrSlip -/

@[simp] theorem Diag.addHdrSlip_framesOk (d : Diag) : (Diag.addHdrSlip d).framesOk = d.framesOk := rfl
@[simp] theorem Diag.addHdrSlip_hdrSlip (d : Diag) : (Diag.addHdrSlip d).hdrSlip = d.hdrSlip + 1 := rfl
@[simp] theorem Diag.addHdrSlip_tailFail (d : Diag) : (Diag.addHdrSlip d).tailFail = d.tailFail := rfl
@[simp] theorem Diag.addHdrSlip_csumFail (d : Diag) : (Diag.addHdrSlip d).csumFail = d.csumFail := rfl
@[simp] theorem Diag.addHdrSlip_ovfClear (d : Diag) : (Diag.addHdrSlip d).ovfClear = d.ovfClear := rfl
@[simp] theorem Diag.addHdrSlip_rxOverrun (d : Diag) : (Diag.addHdrSlip d).rxOverrun = d.rxOverrun := rfl

/-! ### Diag.addTailFail -/

@[simp] theorem Diag.addTailFail_framesOk (d : Diag) : (Diag.addTailFail d).framesOk = d.framesOk := rfl
@[simp] theorem Diag.addTailFail_hdrSlip (d : Diag) : (Diag.addTailFail d).hdrSlip = d.hdrSlip := rfl
@[simp] theorem Diag.addTailFail_tailFail (d : Diag) : (Diag.addTailFail d).tailFail = d.tailFail + 1 := rfl
@[simp] theorem Diag.addTailFail_csumFail (d : Diag) : (Diag.addTailFail d).csumFail = d.csumFail := rfl
@[simp] theorem Diag.addTailFail_ovfClear (d : Diag) : (Diag.addTailFail d).ovfClear = d.ovfClear := rfl
@[simp] theorem Diag.addTailFail_rxOverrun (d : Diag) : (Diag.addTailFail d).rxOverrun = d.rxOverrun := rfl

/-! ### Diag.addCsumFail -/

@[simp] theorem Diag.addCsumFail_framesOk (d : Diag) : (Diag.addCsumFail d).framesOk = d.framesOk := rfl
@[simp] theorem Diag.addCsumFail_hdrSlip (d : Diag) : (Diag.addCsumFail d).hdrSlip = d.hdrSlip := rfl
@[simp] theorem Diag.addCsumFail_tailFail (d : Diag) : (Diag.addCsumFail d).tailFail = d.tailFail := rfl
@[simp] theorem Diag.addCsumFail_csumFail (d : Diag) : (Diag.addCsumFail d).csumFail = d.csumFail + 1 := rfl
@[simp] theorem Diag.addCsumFail_ovfClear (d : Diag) : (Diag.addCsumFail d).ovfClear = d.ovfClear := rfl
@[simp] theorem Diag.addCsumFail_rxOverrun (d : Diag) : (Diag.addCsumFail d).rxOverrun = d.rxOverrun := rfl

/-! ### Diag.addOvfClear -/

@[simp] theorem Diag.addOvfClear_framesOk (d : Diag) : (Diag.addOvfClear d).framesOk = d.framesOk := rfl
@[simp] theorem Diag.addOvfClear_hdrSlip (d : Diag) : (Diag.addOvfClear d).hdrSlip = d.hdrSlip := rfl
@[simp] theorem Diag.addOvfClear_tailFail (d : Diag) : (Diag.addOvfClear d).tailFail = d.tailFail := rfl
@[simp] theorem Diag.addOvfClear_csumFail (d : Diag) : (Diag.addOvfClear d).csumFail = d.csumFail := rfl
@[simp] theorem Diag.addOvfClear_ovfClear (d : Diag) : (Diag.addOvfClear d).ovfClear = d.ovfClear + 1 := rfl
@[simp] theorem Diag.addOvfClear_rxOverrun (d : Diag) : (Diag.addOvfClear d).rxOverrun = d.rxOverrun := rfl

/-! ### Diag.addRxOverrun -/

@[simp] theorem Diag.addRxOverrun_framesOk (d : Diag) : (Diag.addRxOverrun d).framesOk = d.framesOk := rfl
@[simp] theorem Diag.addRxOverrun_hdrSlip (d : Diag) : (Diag.addRxOverrun d).hdrSlip = d.hdrSlip := rfl
@[simp] theorem Diag.addRxOverrun_tailFail (d : Diag) : (Diag.addRxOverrun d).tailFail = d.tailFail := rfl
@[simp] theorem Diag.addRxOverrun_csumFail (d : Diag) : (Diag.addRxOverrun d).csumFail = d.csumFail := rfl
@[simp] theorem Diag.addRxOverrun_ovfClear (d : Diag) : (Diag.addRxOverrun d).ovfClear = d.ovfClear := rfl
@[simp] theorem Diag.addRxOverrun_rxOverrun (d : Diag) : (Diag.addRxOverrun d).rxOverrun = d.rxOverrun + 1 := rfl

end Sys2Proof.Machine
end

