-- ==== Sys2Proof/Laws/Ops.lean ====
section
/-!
SUPPORT. Sys2Proof/Laws/Ops.lean: for each operation that the meanings share, one lemma that says all it can do.
-/

namespace Sys2Proof.Machine

/-! ### Answers -/

theorem answer_eq (s : State) (r : Ret) : answer s r = .next (s.setRet r) := rfl

theorem waits_eq (s : State) : waits s = .next (s.setRet .waits) := rfl

/-- A meaning that answers `answer s r` answers a next state, and which. -/
theorem answer_next {s t : State} {r : Ret} (h : answer s r = .next t) : t = s.setRet r := by
  rw [answer_eq] at h
  exact (Host.Outcome.next.inj h).symm

/-! ### Stopping a lane -/

/-- One owner told of a stop: only `req.send` and that probe can change. -/
theorem notifyStopped_eq (p : Nat) (o : Owner) (s : State) :
    notifyStopped p o s =
      (s.modReq (fun q => if o = .request then { q with send := .fail } else q)).setProbes
        (if o = .probe ∧ (s.probe p).st = .pinging
         then s.probes.modify p (fun b => { b with st := .fail, timer := none }) else s.probes) := by
  cases o
  · rfl
  · by_cases h : (s.probe p).st = .pinging <;> simp [notifyStopped, h, State.modProbe, State.modReq, State.setProbes]

/-- All the owners of a queue told of a stop. -/
theorem notifyAll_eq (p : Nat) (q : List TxItem) : ∀ s : State,
    q.foldl (fun t i => notifyStopped p i.owner t) s =
      (s.modReq (fun r => if q.any (fun i => i.owner = .request) then { r with send := .fail } else r)).setProbes
        (if q.any (fun i => i.owner = .probe) ∧ (s.probe p).st = .pinging
         then s.probes.modify p (fun b => { b with st := .fail, timer := none }) else s.probes) := by
  induction q with
  | nil => intro s; simp [State.setProbes, State.modReq]
  | cons i q ih =>
    intro s
    rw [List.foldl_cons, ih, notifyStopped_eq]
    cases hi : i.owner
    · by_cases hq : q.any (fun i => i.owner = .request) <;>
        simp [hi, hq, State.setProbes, State.modReq, State.probe]
    · by_cases hp : (s.probe p).st = .pinging
      · have hlt : p < s.probes.length := by
          by_contra hn
          rw [State.probe, List.getD_eq_default _ _ (by omega)] at hp
          exact absurd hp (by decide)
        simp only [State.probe, List.getD_eq_getElem?_getD] at hp
        simp only [State.setProbes, State.modReq, State.probe, List.getD_eq_getElem?_getD]
        simp [hi, hlt] at hp ⊢
        simp [hp, hlt]
      · simp only [State.probe, List.getD_eq_getElem?_getD] at hp
        simp only [State.setProbes, State.modReq, State.probe, List.getD_eq_getElem?_getD]
        simp [hi, hp]

/-- StopLane: the lane closes (`Lane.stopped`), a queued request frame fails the request's send, a queued Ping fails
the probe that is PINGING; nothing else changes. -/
theorem stopLane_eq (p : Nat) (s : State) :
    stopLane p s =
      ((s.modReq (fun r => if (s.lane p).txq.any (fun i => i.owner = .request) then { r with send := .fail } else r)).setProbes
        (if (s.lane p).txq.any (fun i => i.owner = .probe) ∧ (s.probe p).st = .pinging
         then s.probes.modify p (fun b => { b with st := .fail, timer := none }) else s.probes)).modLane p
        (Lane.stopped (s.pin p).cut) := by
  rw [stopLane, notifyAll_eq]

@[simp] theorem stopLane_conn (p : Nat) (s : State) : (stopLane p s).conn = s.conn := by rw [stopLane_eq]; rfl
@[simp] theorem stopLane_active (p : Nat) (s : State) : (stopLane p s).active = s.active := by rw [stopLane_eq]; rfl
@[simp] theorem stopLane_params (p : Nat) (s : State) : (stopLane p s).params = s.params := by rw [stopLane_eq]; rfl
@[simp] theorem stopLane_scan (p : Nat) (s : State) : (stopLane p s).scan = s.scan := by rw [stopLane_eq]; rfl
@[simp] theorem stopLane_ctlOut (p : Nat) (s : State) : (stopLane p s).ctlOut = s.ctlOut := by rw [stopLane_eq]; rfl
@[simp] theorem stopLane_regs (p : Nat) (s : State) : (stopLane p s).regs = s.regs := by rw [stopLane_eq]; rfl
@[simp] theorem stopLane_diag (p : Nat) (s : State) : (stopLane p s).diag = s.diag := by rw [stopLane_eq]; rfl
@[simp] theorem stopLane_now (p : Nat) (s : State) : (stopLane p s).now = s.now := by rw [stopLane_eq]; rfl
@[simp] theorem stopLane_inputs (p : Nat) (s : State) : (stopLane p s).inputs = s.inputs := by rw [stopLane_eq]; rfl
@[simp] theorem stopLane_pins (p : Nat) (s : State) : (stopLane p s).pins = s.pins := by rw [stopLane_eq]; rfl
@[simp] theorem stopLane_delivered (p : Nat) (s : State) : (stopLane p s).delivered = s.delivered := by
  rw [stopLane_eq]; rfl
@[simp] theorem stopLane_ret (p : Nat) (s : State) : (stopLane p s).ret = s.ret := by rw [stopLane_eq]; rfl

@[simp] theorem stopLane_lanes (p : Nat) (s : State) :
    (stopLane p s).lanes = s.lanes.modify p (Lane.stopped (s.pin p).cut) := by rw [stopLane_eq]; rfl

@[simp] theorem stopLane_lane_ne {p q : Nat} (s : State) (h : q ≠ p) : (stopLane p s).lane q = s.lane q := by
  rw [stopLane_eq, State.lane_modLane_ne _ _ h]; rfl

@[simp] theorem stopLane_lane_same {p : Nat} (s : State) (h : p < s.lanes.length) :
    (stopLane p s).lane p = (s.lane p).stopped (s.pin p).cut := by
  rw [stopLane_eq, State.lane_modLane_same _ _ (by simpa using h)]; rfl

@[simp] theorem stopLane_probe_ne {p q : Nat} (s : State) (h : q ≠ p) : (stopLane p s).probe q = s.probe q := by
  rw [stopLane_eq]
  simp only [State.probe, State.modLane_probes, State.setProbes_probes, List.getD_eq_getElem?_getD]
  split
  · rw [List.getElem?_modify]; simp [Ne.symm h]
  · rfl

/-! ### Opening a lane and sending -/

/-- OpenLane: fails with nothing changed, or opens the lane (`Lane.opened`). -/
theorem openLane_cases (p : Nat) (role : Role) (baud : Word) (s : State) :
    ((baud = 0 ∨ (s.pin p).openOk = false) ∧ openLane p role baud s = (s, false)) ∨
    (baud ≠ 0 ∧ (s.pin p).openOk = true ∧
      openLane p role baud s = (s.modLane p (Lane.opened role baud s.regs), true)) := by
  by_cases h : baud = 0 ∨ (s.pin p).openOk = false
  · exact .inl ⟨h, by rw [openLane, if_pos h]⟩
  · refine .inr ⟨fun h0 => h (.inl h0), ?_, by rw [openLane, if_neg h]⟩
    cases ho : (s.pin p).openOk
    · exact absurd (.inr ho) h
    · rfl

/-- transmit: the frame joins the lane's queue, and a request's send is pending. -/
theorem transmit_eq (p : Nat) (bytes : List Byte) (o : Owner) (s : State) :
    transmit p bytes o s =
      (s.modLane p (Lane.queued ⟨bytes, o⟩ s.now)).modReq
        (fun q => if o = .request then { q with send := .pending } else q) := by
  cases o <;> rfl

/-- SendFrame: fails with nothing changed, or hands the frame to the lane. -/
theorem sendFrame_cases (p : Nat) (c : Byte) (payload : List Byte) (o : Owner) (s : State) :
    ((255 < payload.length ∨ (s.lane p).role = .closed) ∧ sendFrame p c payload o s = (s, .fail)) ∨
    (payload.length ≤ 255 ∧ (s.lane p).role ≠ .closed ∧
      sendFrame p c payload o s = (transmit p (frameBytes c payload) o s, .queued)) := by
  by_cases h : 255 < payload.length
  · exact .inl ⟨.inl h, by rw [sendFrame, encodeFrame, if_pos h]⟩
  · by_cases hr : (s.lane p).role = .closed
    · exact .inl ⟨.inr hr, by rw [sendFrame, encodeFrame, if_neg h]; simp [hr]⟩
    · exact .inr ⟨by omega, hr, by rw [sendFrame, encodeFrame, if_neg h]; simp [hr]⟩

/-! ### Failures and completions -/

/-- ProbeFail: on a probe that is PINGING, WAITING or OK it fails the probe and stops its lane; else nothing. -/
theorem probeFail_cases (p : Nat) (s : State) :
    (((s.probe p).st = .pinging ∨ (s.probe p).st = .waiting ∨ (s.probe p).st = .ok) ∧
      probeFail p s = stopLane p (s.modProbe p (fun b => { b with st := .fail, timer := none }))) ∨
    (((s.probe p).st = .idle ∨ (s.probe p).st = .opening ∨ (s.probe p).st = .fail) ∧ probeFail p s = s) := by
  rw [probeFail]
  cases (s.probe p).st <;> simp

/-- TeardownActive: in Connected it stops the active lane, moves to Disconnected and posts; else nothing. -/
theorem teardownActive_cases (reason : Reason) (s : State) :
    (s.conn = .connected ∧
      teardownActive reason s = ((stopLane s.active s).setConn .disconnected noPort).post (.disconnected reason)) ∨
    (s.conn ≠ .connected ∧ teardownActive reason s = s) := by
  by_cases h : s.conn = .connected
  · exact .inl ⟨h, by rw [teardownActive, if_pos h]⟩
  · exact .inr ⟨h, by rw [teardownActive, if_neg h]⟩

/-- done: one REQ_DONE posted, phase DONE. -/
theorem reqDone_eq (op : Byte) (r : Result) (s : State) :
    reqDone op r s = (s.post (.reqDone op r)).modReq (fun q => { q with phase := .done }) := rfl

/-- A new connection: the state, the cleared valid bits, the event. -/
theorem becomeConnected_eq (p : Nat) (s : State) :
    becomeConnected p s = ((s.setConn .connected p).modRegs Regs.invalidate).post (.connected p) := rfl

/-! ### The ring buffer of a lane -/

/-- A Write to lane `p`'s ring buffer changes that buffer, and the counter when it clears. -/
theorem rbWrite_eq (p : Nat) (data : List Byte) (s : State) :
    rbWrite p data s =
      (s.setRb p ((s.lane p).rb.write s.params.rbCap s.params.ovfPolicy data).1).setDiag
        (if ((s.lane p).rb.write s.params.rbCap s.params.ovfPolicy data).2 then s.diag.addOvfClear else s.diag) := by
  simp only [rbWrite]
  split <;> rfl

/-! ### The reset state -/

theorem reset_lanes_wf (pr : Params) (pins : List Pin) (h : pr.wf) :
    ∀ l ∈ (State.resetOf pr pins).lanes, l.rb.wf pr.rbCap := by
  intro l hl
  rw [(List.mem_replicate.1 hl).2]
  exact RingBuf.wf_empty h.2.2.2.1

/-- Every ring buffer's storage has the canonical form after reset. -/
theorem reset_mem_wf : ∀ l ∈ State.reset.lanes, l.rb.mem.wf :=
  fun l hl => (reset_lanes_wf _ _ Config.chip.ok l hl).2.2.2.2.1

end Sys2Proof.Machine
end

