-- ==== Sys2Proof/Laws/Inbound.lean ====
section
/-!
SUPPORT. Sys2Proof/Laws/Inbound.lean: what Inbound and ProbeFrame can do, and that the frames of an RX step are routed as
`execEach` runs the rows INBOUND and PROBE_FRAME over them, one after the other (42_transport.md R226).
-/

namespace Sys2Proof.Machine

theorem State.setRet_self (s : State) : s.setRet s.ret = s := rfl

/-! ### One frame -/

/-- PROBE_FRAME changes the probes, the scan's winner and SCAN_HITS, and nothing else. -/
theorem probeFrame_changes (p : Nat) (f : Frame) (s : State) :
    ∃ probes scan hits,
      probeFrame p f s = { s with probes := probes, scan := scan, regs := { s.regs with scanHits := hits } } := by
  rw [probeFrame]
  split
  · rw [probeSuccess, arbitrate]
    split
    · exact ⟨_, _, _, rfl⟩
    · split <;> exact ⟨_, _, _, rfl⟩
  · exact ⟨s.probes, s.scan, s.regs.scanHits, rfl⟩

/-- Inbound changes the LAST registers and their valid bits, and nothing else; its first event is FRAME_RECEIVED. -/
theorem inbound_changes (f : Frame) (s : State) :
    ∃ cfg sts cv sv more,
      inbound f s = ({ s with regs := { s.regs with lastConfig := cfg, lastStatus := sts, cfgValid := cv, stsValid := sv } },
        .frameReceived f.raw :: more) := by
  simp only [inbound, inboundTyped, decodeConfig, decodeStatus, decodeError]
  repeat' split
  all_goals exact ⟨_, _, _, _, _, rfl⟩

theorem decodeConfig_setRet (f : Frame) (s : State) (r : Ret) :
    decodeConfig f (s.setRet r) = ((decodeConfig f s).1.setRet r, (decodeConfig f s).2) := by
  rw [decodeConfig, decodeConfig]
  by_cases h : f.payload.length < 21
  · rw [if_pos h, if_pos h]
  · rw [if_neg h, if_neg h]; rfl

theorem decodeStatus_setRet (f : Frame) (s : State) (r : Ret) :
    decodeStatus f (s.setRet r) = ((decodeStatus f s).1.setRet r, (decodeStatus f s).2) := by
  rw [decodeStatus, decodeStatus]
  by_cases h : f.payload.length < 37
  · rw [if_pos h, if_pos h]
  · rw [if_neg h, if_neg h]; rfl

theorem decodeError_setRet (f : Frame) (s : State) (r : Ret) :
    decodeError f (s.setRet r) = ((decodeError f s).1.setRet r, (decodeError f s).2) := by
  rw [decodeError, decodeError]
  cases f.payload <;> rfl

/-- Inbound does not read what the last instruction returned. -/
theorem inbound_setRet (f : Frame) (s : State) (r : Ret) :
    inbound f (s.setRet r) = ((inbound f s).1.setRet r, (inbound f s).2) := by
  have h : inboundTyped f (s.setRet r) = ((inboundTyped f s).1.setRet r, (inboundTyped f s).2) := by
    simp only [inboundTyped, State.setRet_params, decodeConfig_setRet, decodeStatus_setRet, decodeError_setRet]
    by_cases c1 : f.code = s.params.code.returnConfig
    · simp only [if_pos c1]
    by_cases c2 : f.code = s.params.code.returnStatus
    · simp only [if_neg c1, if_pos c2]
    by_cases c3 : f.code = s.params.code.error
    · simp only [if_neg c1, if_neg c2, if_pos c3]
    simp only [if_neg c1, if_neg c2, if_neg c3]
    by_cases c4 : f.code = s.params.code.ack
    · simp only [if_pos c4]; exact if_pos c4
    by_cases c5 : f.code = s.params.code.nack
    · simp only [if_neg c4, if_pos c5]; exact (if_neg c4).trans (if_pos c5)
    simp only [if_neg c4, if_neg c5]
    by_cases c6 : f.code = s.params.code.sack
    · simp only [if_pos c6]; exact (if_neg c4).trans ((if_neg c5).trans (if_pos c6))
    · simp only [if_neg c6]; exact (if_neg c4).trans ((if_neg c5).trans (if_neg c6))
  simp only [inbound, h]

theorem arbitrate_setRet (p : Nat) (s : State) (r : Ret) : arbitrate p (s.setRet r) = (arbitrate p s).setRet r := by
  simp only [arbitrate, State.setRet_scan, State.setRet_now]
  cases s.scan.winner with
  | none => rfl
  | some w =>
    by_cases h : s.scan.tWin = s.now ∧ p < w
    · simp only [if_pos h]; exact if_pos h
    · simp only [if_neg h]; exact if_neg h

/-- ProbeFrame does not read what the last instruction returned. -/
theorem probeFrame_setRet (p : Nat) (f : Frame) (s : State) (r : Ret) :
    probeFrame p f (s.setRet r) = (probeFrame p f s).setRet r := by
  have hm : probeMatches p f (s.setRet r) = probeMatches p f s := rfl
  rw [probeFrame, probeFrame, hm]
  by_cases h : probeMatches p f s = true
  · rw [if_pos h, if_pos h, probeSuccess, probeSuccess, ← arbitrate_setRet]; rfl
  · rw [if_neg h, if_neg h]

/-! ### The frames of an RX step -/

/-- On an active lane: INBOUND for each frame, the events in order; none only when there is no frame. -/
theorem routeFrames_active (p : Nat) : ∀ (fs : List Frame) (s : State) (r : Ret), (s.lane p).role = .active →
    (∃ r', execEach .inbound fs (s.setRet r) = ((routeFrames p fs s).1.setRet r', (routeFrames p fs s).2)) ∧
    ((routeFrames p fs s).2 = [] ↔ fs = []) ∧
    ∃ cfg sts cv sv, (routeFrames p fs s).1 =
      { s with regs := { s.regs with lastConfig := cfg, lastStatus := sts, cfgValid := cv, stsValid := sv } } := by
  intro fs
  induction fs with
  | nil => exact fun s r _ => ⟨⟨r, rfl⟩, by simp [routeFrames], _, _, _, _, rfl⟩
  | cons f fs ih =>
    intro s r h
    obtain ⟨cfg, sts, cv, sv, more, e⟩ := inbound_changes f s
    obtain ⟨⟨r', h1⟩, -, cfg', sts', cv', sv', h3⟩ :=
      ih (inbound f s).1 (.events (inbound f s).2) (by rw [e]; exact h)
    have hr : ((inbound f s).1.setRet r).setRet (.events (inbound f s).2) =
        (inbound f s).1.setRet (.events (inbound f s).2) := rfl
    refine ⟨⟨r', ?_⟩, ?_, ?_⟩
    · simp only [execEach, exec, execInbound, inbound_setRet, answer, hr, h1, routeFrames, routeFrame, h]
      rfl
    · simp only [routeFrames, routeFrame, h]
      simp [e]
    · simp only [routeFrames, routeFrame, h]
      rw [h3, e]
      exact ⟨_, _, _, _, rfl⟩

/-- On a probe lane: PROBE_FRAME for each frame, and no event. -/
theorem routeFrames_probe (p : Nat) : ∀ (fs : List Frame) (s : State) (r : Ret), (s.lane p).role = .probe →
    (∃ r', (execEach (.probeFrame p) fs (s.setRet r)).1 = (routeFrames p fs s).1.setRet r') ∧
    (routeFrames p fs s).2 = [] ∧
    ∃ probes scan hits, (routeFrames p fs s).1 =
      { s with probes := probes, scan := scan, regs := { s.regs with scanHits := hits } } := by
  intro fs
  induction fs with
  | nil => exact fun s r _ => ⟨⟨r, rfl⟩, rfl, _, _, _, rfl⟩
  | cons f fs ih =>
    intro s r h
    obtain ⟨probes, scan, hits, e⟩ := probeFrame_changes p f s
    obtain ⟨⟨r', h1⟩, h2, probes', scan', hits', h3⟩ := ih (probeFrame p f s) .unit (by rw [e]; exact h)
    have hr : ((probeFrame p f s).setRet r).setRet .unit = (probeFrame p f s).setRet .unit := rfl
    refine ⟨⟨r', ?_⟩, ?_, ?_⟩
    · simp only [execEach, exec, execProbeFrame, probeFrame_setRet, answer, routeFrames, routeFrame, h, hr, h1]
    · simp only [routeFrames, routeFrame, h]
      simp [h2]
    · simp only [routeFrames, routeFrame, h]
      rw [h3, e]
      exact ⟨_, _, _, rfl⟩

/-- On a closed lane nothing happens. -/
theorem routeFrames_closed (p : Nat) : ∀ (fs : List Frame) (s : State), (s.lane p).role = .closed →
    routeFrames p fs s = (s, []) := by
  intro fs
  induction fs with
  | nil => exact fun _ _ => rfl
  | cons f fs ih =>
    intro s h
    simp only [routeFrames, routeFrame, h, ih s h, List.append_nil]

end Sys2Proof.Machine
end

