-- ==== Sys2Proof/Tests/Slice0.lean ====
section
/-!
SUPPORT. Sys2Proof/Tests/Slice0.lean: the well-formedness smoke tests, the decoding of words written out from the encodings
of spec/30_encoding.md, one-step tests whose expected results are the vectors of spec/95_test_vectors.md (V-… and P…), and
a witness for the hypotheses of each statement. The parameters here are the spec's test assignment TA; the model does not
use it.
-/

namespace Sys2Proof.Tests

open Sys2Proof.Machine

/-! ### Small states -/

/-- Two ports, RB_CAP 64, RD_CHUNK 64, the test assignment TA. -/
def params : Params :=
  { nPorts := 2, portName := [['C', 'O', 'M', '1'], ['B', 'T', '-', 'I', 'n']], denylist := [['B', 'T']], rbCap := 64,
    ovfPolicy := .clearThenWrite, rdChunk := 64, stimCode := ⟨0x00, 0x01, 0x02, 0x03⟩,
    code := ⟨0x01, 0x02, 0x03, 0x04, 0x05, 0x06, 0x81, 0x82, 0x83, 0x84, 0x85, 0x86, 0x87⟩ }

/-- Right after reset; both ports present and opening, nonces 5A and 7F, three bytes of a cut frame have left. -/
def s0 : State := State.resetOf params [⟨true, true, 0x5A, 64, 3⟩, ⟨true, true, 0x7F, 64, 0⟩]

/-- An open lane with nothing in it. -/
def openedLane (r : Role) : Lane := Lane.opened r 115200 Regs.reset Lane.reset

/-- Connected on lane 0. -/
def con : State := { s0 with conn := .connected, active := 0, lanes := [openedLane .active, Lane.reset] }

/-- Connected, a GET_CONFIG frame being sent since time 1000. -/
def sending : State :=
  { con with
    now := 501000, req := { busy := true, cur := ⟨0x05, []⟩, phase := .send, send := .pending },
    lanes := [{ openedLane .active with txq := [⟨[0xAA, 0x55, 0x03, 0x00, 0x03, 0x0D, 0x0A], .request⟩], txStart := 1000,
                                        wt := true }, Lane.reset] }

/-- Scanning; probe 0 in state `st` on an open lane, probe 1 done (FAIL). -/
def scn (st : ProbeSt) : State :=
  { s0 with
    conn := .scanning, now := 200700, lanes := [openedLane .probe, Lane.reset],
    probes := [⟨st, 0x5A, if st = .waiting then some 700 else none⟩, ⟨.fail, 0, none⟩],
    scan := { active := true, baud := 115200, probeTo := 200000, winner := none, tWin := 0, result := .unset },
    req := { busy := true, cur := ⟨0x03, []⟩, phase := .scan, send := .unset } }

/-- Scanning; probe 0 PINGING, its Ping being sent since time 1000. -/
def pinging : State :=
  { scn .pinging with
    now := 501000,
    lanes := [{ openedLane .probe with txq := [⟨[0xAA, 0x55, 0x02, 0x01, 0x5A, 0x5D, 0x0D, 0x0A], .probe⟩], txStart := 1000,
                                       wt := true }, Lane.reset] }

/-- Scanning; probe 0 has not opened its lane yet. -/
def opening : State := { scn .opening with lanes := [Lane.reset, Lane.reset] }

/-- Scanning; every probe done and port 0 the winner. -/
def won : State := { scn .ok with scan := { (scn .ok).scan with winner := some 0, tWin := 3700 } }

/-- A ring buffer of capacity 8 with the given cursor and content, stored from that cursor (V-B…). -/
def buf (r : Nat) (data : List Byte) : RingBuf := RingBuf.append 8 data { RingBuf.empty with r := r, w := r }

/-- Connected on lane 0 with a ring buffer of capacity 8. -/
def small (b : RingBuf) (pol : OvfPolicy) : State :=
  { con with params := { params with rbCap := 8, ovfPolicy := pol },
             lanes := [{ openedLane .active with rb := b }, Lane.reset] }

/-- The state an instruction leaves. -/
def run (i : Instr) (s : State) : State :=
  match exec i s with
  | .next t => t
  | _ => s

/-! ### Well-formedness: each check refuses an ill-formed term -/

theorem test_wf_olen (ops : List Byte) (h : ops.length = 65536) : (Instr.scan ops).wf params = false := by
  simp [Instr.wf, h]
theorem test_wf_port : (Instr.rbClear 2).wf params = false := by decide
theorem test_wf_enable_payload : (Instr.frameEnableDisable 0 [0x02]).wf params = false := by decide
theorem test_wf_ping_payload : (Instr.framePing 0 []).wf params = false := by decide
theorem test_wf_empty_payload : (Instr.frameGetStatus 0 [0x00]).wf params = false := by decide
theorem test_wf_stim_payload : (Instr.frameSetStimulation 0 (List.replicate 21 0x01)).wf params = false := by decide
theorem test_wf_stim_empty : (Instr.frameSetStimulation 0 []).wf params = false := by decide
theorem test_wf_phases_payload : (Instr.frameSetPhases 0 [0, 0, 0]).wf params = false := by decide
theorem test_wf_phases_cap (pl : List Byte) (h : pl.length = 256) : (Instr.frameSetPhases 0 pl).wf params = false := by
  simp [Instr.wf, phasesPayloadOk, h]
theorem test_wf_rx_payload (pl : List Byte) (h : pl.length = 256) : (Instr.frameAck 0 pl).wf params = false := by
  simp [Instr.wf, h]
theorem test_wf_other_code : (Instr.frameOther 0 0x85 []).wf params = false := by decide
theorem test_wf_csum_payload (pl : List Byte) (h : pl.length = 256) : (Instr.csum 0 pl).wf params = false := by
  simp [Instr.wf, h]
theorem test_wf_open_role : (Instr.openLane 0 .closed 9600).wf params = false := by decide
theorem test_wf_frame_raw : (Instr.inbound ⟨0x81, [], [0xAA]⟩).wf params = false := by decide
theorem test_wf_probe_frame : (Instr.probeFrame 0 ⟨0x81, [], []⟩).wf params = false := by decide
theorem test_wf_descriptor (ops : List Byte) (h : ops.length = 65536) : (Instr.execute ⟨0x03, ops⟩).wf params = false := by
  simp [Instr.wf, h]
theorem test_wf_take (ops : List Byte) (h : ops.length = 65536) :
    (Instr.requestEngineSteps (.take ⟨0x03, ops⟩)).wf params = false := by
  simp [Instr.wf, h]
theorem test_wf_accepts : (Instr.frameSetPhases 1 [0, 0, 0, 0]).wf params = true := by decide
theorem test_params_wf : params.wf := by decide

/-! ### Decoding: a word of every row that has an encoding, written out from R100-R129 and R142 -/

theorem test_decode_manual_connect :
    decodeRequest [0x01, 0x05, 0x00, 0x02, 0x00, 0xC2, 0x01, 0x00] = .ok (.manualConnect [0x02, 0x00, 0xC2, 0x01, 0x00]) := by
  decide
theorem test_decode_reconnect : decodeRequest [0x02, 0x00, 0x00] = .ok (.reconnect []) := by decide
theorem test_decode_scan : decodeRequest [0x03, 0x00, 0x00] = .ok (.scan []) := by decide
theorem test_decode_disconnect : decodeRequest [0x04, 0x00, 0x00] = .ok (.disconnect []) := by decide
theorem test_decode_get_config : decodeRequest [0x05, 0x01, 0x00, 0x00] = .ok (.getConfig [0x00]) := by decide
theorem test_decode_get_status : decodeRequest [0x06, 0x00, 0x00] = .ok (.getStatus []) := by decide
theorem test_decode_set_stimulation :
    decodeRequest [0x07, 0x02, 0x00, 0x04, 0x11] = .ok (.setStimulation [0x04, 0x11]) := by decide
theorem test_decode_set_phases :
    decodeRequest [0x08, 0x04, 0x00, 0x00, 0x00, 0x80, 0x3F] = .ok (.setPhases [0x00, 0x00, 0x80, 0x3F]) := by decide
theorem test_decode_set_enable : decodeRequest [0x09, 0x01, 0x00, 0x01] = .ok (.setEnable [0x01]) := by decide
theorem test_decode_reserved_00 : decodeRequest [0x00, 0x00, 0x00] = .ok (.reservedReq00 []) := by decide
theorem test_decode_reserved_0A :
    decodeRequest [0x0B, 0x02, 0x00, 0x11, 0x22] = .ok (.reservedReq0A 1 [0x11, 0x22]) := by decide
theorem test_decode_reserved_0C : decodeRequest [0x0E, 0x00, 0x00] = .ok (.reservedReq0C 2 []) := by decide
theorem test_decode_reserved_10 : decodeRequest [0x1F, 0x00, 0x00] = .ok (.reservedReq10 0xF []) := by decide
theorem test_decode_reserved_20 : decodeRequest [0x20, 0x00, 0x00] = .ok (.reservedReq20 0 []) := by decide
theorem test_decode_reserved_40 : decodeRequest [0x7F, 0x00, 0x00] = .ok (.reservedReq40 0x3F []) := by decide
theorem test_decode_reserved_80 : decodeRequest [0xFF, 0x00, 0x00] = .ok (.reservedReq80 0x7F []) := by decide
theorem test_decode_short : decodeRequest [0x03, 0x00] = .error .truncated := by decide
theorem test_decode_wrong_olen : decodeRequest [0x03, 0x00, 0x01] = .error .badOlen := by decide
theorem test_decode_reg_read : decodeInput params (.bus false 0x18 0xFF) = .instr (.regRead 0x18) := by decide
theorem test_decode_reg_write : decodeInput params (.bus true 0x04 0x2580) = .instr (.regWrite 0x04 0x2580) := by decide
theorem test_decode_tx_enable :
    decodeTx params 0 [0xAA, 0x55, 0x01, 0x01, 0x01, 0x03, 0x0D, 0x0A] = .ok (.frameEnableDisable 0 [0x01]) := by decide
theorem test_decode_tx_ping :
    decodeTx params 1 [0xAA, 0x55, 0x02, 0x01, 0x5A, 0x5D, 0x0D, 0x0A] = .ok (.framePing 1 [0x5A]) := by decide
theorem test_decode_tx_get_config :
    decodeTx params 0 [0xAA, 0x55, 0x03, 0x00, 0x03, 0x0D, 0x0A] = .ok (.frameGetConfig 0 []) := by decide
theorem test_decode_tx_get_status :
    decodeTx params 0 [0xAA, 0x55, 0x04, 0x00, 0x04, 0x0D, 0x0A] = .ok (.frameGetStatus 0 []) := by decide
/-- The Point frame of section 3.5. -/
theorem test_decode_tx_set_stimulation :
    decodeTx params 0 [0xAA, 0x55, 0x05, 0x15, 0x00, 0x0A, 0xD7, 0x23, 0x3C, 0xCD, 0xCC, 0x4C, 0x3E, 0xCD, 0xCC, 0xCC, 0x3D,
      0x00, 0x00, 0x80, 0x3F, 0x00, 0x00, 0x48, 0x43, 0x69, 0x0D, 0x0A] =
    .ok (.frameSetStimulation 0 [0x00, 0x0A, 0xD7, 0x23, 0x3C, 0xCD, 0xCC, 0x4C, 0x3E, 0xCD, 0xCC, 0xCC, 0x3D, 0x00, 0x00, 0x80,
      0x3F, 0x00, 0x00, 0x48, 0x43]) := by decide
theorem test_decode_tx_set_phases :
    decodeTx params 0 [0xAA, 0x55, 0x06, 0x00, 0x06, 0x0D, 0x0A] = .ok (.frameSetPhases 0 []) := by decide
theorem test_decode_tx_response : decodeTx params 0 [0xAA, 0x55, 0x81, 0x00, 0x81, 0x0D, 0x0A] = .error .notACommand := by
  decide
theorem test_decode_rx_ack : decodeRx params 0 [0xAA, 0x55, 0x81, 0x00, 0x81, 0x0D, 0x0A] = .ok (.frameAck 0 []) := by decide
theorem test_decode_rx_nack : decodeRx params 0 [0xAA, 0x55, 0x82, 0x00, 0x82, 0x0D, 0x0A] = .ok (.frameNack 0 []) := by decide
theorem test_decode_rx_ping_ack :
    decodeRx params 0 [0xAA, 0x55, 0x83, 0x01, 0x5A, 0xDE, 0x0D, 0x0A] = .ok (.framePingAck 0 [0x5A]) := by decide
theorem test_decode_rx_return_config :
    decodeRx params 0 [0xAA, 0x55, 0x84, 0x01, 0x07, 0x8C, 0x0D, 0x0A] = .ok (.frameReturnConfig 0 [0x07]) := by decide
theorem test_decode_rx_return_status :
    decodeRx params 0 [0xAA, 0x55, 0x85, 0x00, 0x85, 0x0D, 0x0A] = .ok (.frameReturnStatus 0 []) := by decide
theorem test_decode_rx_sack : decodeRx params 0 [0xAA, 0x55, 0x86, 0x00, 0x86, 0x0D, 0x0A] = .ok (.frameSack 0 []) := by decide
theorem test_decode_rx_error :
    decodeRx params 0 [0xAA, 0x55, 0x87, 0x01, 0x07, 0x8F, 0x0D, 0x0A] = .ok (.frameError 0 [0x07]) := by decide
/-- V-E5: no byte of the payload is escaped. -/
theorem test_decode_rx_other :
    decodeRx params 0 [0xAA, 0x55, 0x10, 0x04, 0xAA, 0x55, 0x0D, 0x0A, 0x2A, 0x0D, 0x0A] =
      .ok (.frameOther 0 0x10 [0xAA, 0x55, 0x0D, 0x0A]) := by decide
theorem test_decode_rx_bad_tail :
    decodeFrame [0xAA, 0x55, 0x03, 0x00, 0x99, 0x0D, 0x0B] = .error .badTail := by decide
theorem test_decode_rx_bad_checksum :
    decodeFrame [0xAA, 0x55, 0x87, 0x01, 0x07, 0x90, 0x0D, 0x0A] = .error .badChecksum := by decide
theorem test_decode_noise : decodeInput params (.rx 1 [0xAA]) = .noise 1 [0xAA] := by decide
theorem test_decode_agents :
    decodeInput params (.arrive 1 0xAA) = .instr (.arrive 1 0xAA) ∧ decodeInput params (.rxStep 1) = .instr (.rxStep 1) ∧
    decodeInput params (.txDone 1) = .instr (.txDone 1) ∧ decodeInput params (.writeTimeout 1) = .instr (.writeTimeout 1) ∧
    decodeInput params (.portFault 1) = .instr (.portFault 1) ∧ decodeInput params (.probeOpen 1) = .instr (.probeOpen 1) ∧
    decodeInput params (.probeTimer 1) = .instr (.probeTimer 1) ∧ decodeInput params .scanEnd = .instr .scanEnd ∧
    decodeInput params .sendComplete = .instr (.requestEngineSteps .sendComplete) ∧
    decodeInput params .scanComplete = .instr (.requestEngineSteps .scanComplete) ∧
    decodeInput params .retire = .instr (.requestEngineSteps .retire) ∧ decodeInput params .reset = .instr .reset := by decide

/-! ### One step of each instruction -/

/-- V-R22, then V-S5. -/
theorem test_manual_connect_baud_0 :
    (run (.manualConnect [0x00, 0x00, 0x00, 0x00, 0x00]) s0).ctlOut.map Event.record =
      [[0x02, 0x01, 0x00, 0x03], [0x0A, 0x02, 0x00, 0x01, 0x06]] := by decide
theorem test_manual_connect :
    (run (.manualConnect [0x00, 0x00, 0xC2, 0x01, 0x00]) s0).ctlOut.map Event.record =
      [[0x01, 0x01, 0x00, 0x00], [0x0A, 0x02, 0x00, 0x01, 0x00]] := by decide
/-- V-R24. -/
theorem test_reconnect :
    (run (.reconnect []) con).ctlOut.map Event.record = [[0x02, 0x01, 0x00, 0x05]] ∧
    (run (.reconnect []) con).conn = .scanning := by decide
/-- P1 step 1: the denylisted port is skipped; then V-G3. -/
theorem test_scan :
    (run (.scan []) s0).regs.scanEligible = 0x1 ∧ stateWord (run (.scan []) s0) = 0x0004FF01 := by decide
/-- V-R17. -/
theorem test_scan_connected :
    (run (.scan []) con).ctlOut.map Event.record = [[0x0A, 0x02, 0x00, 0x03, 0x02]] := by decide
/-- V-R20. -/
theorem test_disconnect :
    (run (.disconnect []) con).ctlOut.map Event.record = [[0x02, 0x01, 0x00, 0x00], [0x0A, 0x02, 0x00, 0x04, 0x00]] := by
  decide
/-- V-R15. -/
theorem test_get_config :
    ((run (.getConfig []) con).lane 0).txq = [⟨[0xAA, 0x55, 0x03, 0x00, 0x03, 0x0D, 0x0A], .request⟩] := by decide
/-- V-R3. -/
theorem test_get_config_bad :
    (run (.getConfig [0x00]) s0).ctlOut.map Event.record = [[0x0A, 0x02, 0x00, 0x05, 0x04]] := by decide
/-- R305's example. -/
theorem test_get_status :
    ((run (.getStatus []) con).lane 0).txq = [⟨[0xAA, 0x55, 0x04, 0x00, 0x04, 0x0D, 0x0A], .request⟩] := by decide
/-- The Circular vector of section 3.5: the payload. -/
theorem test_set_stimulation :
    (((run (.setStimulation [0x03, 0x00, 0x00, 0x00, 0x00, 0x00, 0x00, 0x00, 0x00, 0x9A, 0x99, 0x19, 0x3E, 0x00, 0x00, 0x00,
      0x00, 0x00, 0x00, 0x80, 0x3F, 0x00, 0x00, 0x00, 0x00, 0x0A, 0xD7, 0x23, 0x3C, 0x00, 0x00, 0x00, 0x3F, 0x00, 0x00, 0x48,
      0x43]) con).lane 0).txq.map (fun i => i.bytes.drop 4)) =
      [[0x03, 0x00, 0x00, 0x00, 0x00, 0x9A, 0x99, 0x19, 0x3E, 0x00, 0x00, 0x00, 0x00, 0x00, 0x00, 0x00, 0x00, 0x00, 0x00, 0x00,
        0x00, 0x00, 0x00, 0x80, 0x3F, 0x0A, 0xD7, 0x23, 0x3C, 0x00, 0x00, 0x00, 0x3F, 0x00, 0x00, 0x48, 0x43, 0x80, 0x0D,
        0x0A]] := by decide
/-- V-R12. -/
theorem test_set_phases :
    ((run (.setPhases [0x00, 0x00, 0x00, 0x00, 0x00, 0x00, 0x00, 0x3F, 0x00, 0x00, 0x80, 0x3F]) con).lane 0).txq =
      [⟨[0xAA, 0x55, 0x06, 0x0C, 0x00, 0x00, 0x00, 0x00, 0x00, 0x00, 0x00, 0x3F, 0x00, 0x00, 0x80, 0x3F, 0x10, 0x0D, 0x0A],
        .request⟩] := by decide
/-- V-R8: the cap is checked before the connection state. -/
theorem test_set_phases_cap (ops : List Byte) (h : ops.length = 256) :
    requestError ⟨0x08, ops⟩ s0 = some .phaseCap := by
  simp [requestError, reqKind, wellFormedReq, h]
/-- V-R13. -/
theorem test_set_enable :
    ((run (.setEnable [0x02]) con).lane 0).txq = [⟨[0xAA, 0x55, 0x01, 0x01, 0x01, 0x03, 0x0D, 0x0A], .request⟩] := by decide
/-- V-R1, V-R2. -/
theorem test_reserved :
    (run (.reservedReq00 []) s0).ctlOut.map Event.record = [[0x0A, 0x02, 0x00, 0x00, 0x08]] ∧
    (run (.reservedReq0A 0 [0x11, 0x22]) s0).ctlOut.map Event.record = [[0x0A, 0x02, 0x00, 0x0A, 0x08]] := by decide
/-- V-G2, V-G8, V-G7. -/
theorem test_reg_read :
    (run (.regRead 0x05) s0).ret = .word 0x0001C200 ∧ (run (.regRead 0x58) s0).ret = .word 0 := by decide
/-- V-G5, V-G6. -/
theorem test_reg_write :
    readReg 0x04 (run (.regWrite 0x04 0x2580) s0) = 0x2580 ∧
    readReg 0x00 (run (.regWrite 0x00 0xFFFFFFFF) s0) = 0x0000FF00 := by decide
/-- A command frame joins the queue of its lane. -/
theorem test_frame_ping :
    ((run (.framePing 0 [0x5A]) (scn .pinging)).lane 0).txq =
      [⟨[0xAA, 0x55, 0x02, 0x01, 0x5A, 0x5D, 0x0D, 0x0A], .probe⟩] := by decide
/-- V-D3's counterpart for ReturnConfig (V-D5): a short payload changes no register. -/
theorem test_frame_return_config_short :
    ((run (.frameReturnConfig 0 [0x07]) con).lane 0).rx =
      .delivering [.frameReceived [0xAA, 0x55, 0x84, 0x01, 0x07, 0x8C, 0x0D, 0x0A], .decodeFailed 0x84 0x01] ∧
    (run (.frameReturnConfig 0 [0x07]) con).regs = con.regs := by decide
set_option maxRecDepth 4000 in
/-- V-D2: the word of LAST_STATUS that holds the temperature. -/
theorem test_frame_return_status :
    readReg 0x6C (run (.frameReturnStatus 0 [0x33, 0x33, 0x53, 0x40, 0x5C, 0x8F, 0x52, 0x40, 0xEC, 0x51, 0xA0, 0x40, 0x00, 0x00,
      0x12, 0x42, 0x11, 0x11, 0x11, 0x11, 0x11, 0x11, 0xA1, 0x3F, 0x00, 0x00, 0xF0, 0x41, 0x00, 0x01, 0x00, 0x00, 0x00, 0x00,
      0x00, 0x00, 0x00]) con) = 0x42120000 := by decide
/-- V-D6, V-D7. -/
theorem test_frame_error :
    ((run (.frameError 0 [0x07]) con).lane 0).rx.casesOn [] [] (fun evs => evs.drop 1) = [.errorReceived 0x07] ∧
    ((run (.frameError 0 []) con).lane 0).rx.casesOn [] [] (fun evs => evs.drop 1) = [.decodeFailed 0x87 0x00] := by decide
/-- V-D8, V-D9, V-D10. -/
theorem test_frame_acks :
    ((run (.frameAck 0 []) con).lane 0).rx.casesOn [] [] (fun evs => evs.drop 1) = [.ackReceived .ack] ∧
    ((run (.frameNack 0 []) con).lane 0).rx.casesOn [] [] (fun evs => evs.drop 1) = [.ackReceived .nack] ∧
    ((run (.frameSack 0 []) con).lane 0).rx.casesOn [] [] (fun evs => evs.drop 1) = [.ackReceived .sack] := by decide
/-- V-D11 on the active lane; V-S4's wrong nonce and P1 step 9 on a probe lane. -/
theorem test_frame_ping_ack :
    ((run (.framePingAck 0 [0x5A]) con).lane 0).rx =
      .delivering [.frameReceived [0xAA, 0x55, 0x83, 0x01, 0x5A, 0xDE, 0x0D, 0x0A]] ∧
    (run (.framePingAck 0 [0x5B]) (scn .waiting)).regs.scanHits = 0 ∧
    (run (.framePingAck 0 [0x5A]) (scn .waiting)).regs.scanHits = 1 ∧
    (run (.framePingAck 0 [0x5A]) (scn .waiting)).scan.winner = some 0 := by decide
/-- V-D13. -/
theorem test_frame_other :
    ((run (.frameOther 0 0x10 [0xAA, 0x55, 0x0D, 0x0A]) con).lane 0).rx =
      .delivering [.frameReceived [0xAA, 0x55, 0x10, 0x04, 0xAA, 0x55, 0x0D, 0x0A, 0x2A, 0x0D, 0x0A]] := by decide
/-- V-B6: the write cursor wraps. -/
theorem test_rb_write_wraps :
    ((run (.rbWrite 0 [1, 2, 3, 4]) (small (buf 6 []) .clearThenWrite)).lane 0).rb =
      { mem := [(0, 3), (1, 4), (6, 1), (7, 2)], r := 6, w := 2, count := 4 } := by decide
/-- V-B10, under both policies. -/
theorem test_rb_write_overflows :
    ((run (.rbWrite 0 [7, 8, 9]) (small (buf 0 [1, 2, 3, 4, 5, 6]) .clearThenWrite)).lane 0).rb.content 8 = [7, 8, 9] ∧
    ((run (.rbWrite 0 [7, 8, 9]) (small (buf 0 [1, 2, 3, 4, 5, 6]) .clearAndDrop)).lane 0).rb.count = 0 ∧
    (run (.rbWrite 0 [7, 8, 9]) (small (buf 0 [1, 2, 3, 4, 5, 6]) .clearAndDrop)).diag.ovfClear = 1 := by decide
/-- V-B2, V-B3, V-B4. -/
theorem test_rb_peek :
    (run (.rbPeek 0 2) (small (buf 0 [1, 2, 3]) .clearThenWrite)).ret = .bytes [1, 2] ∧
    (run (.rbPeek 0 5) (small (buf 0 [1, 2, 3]) .clearThenWrite)).ret = .bytes [1, 2, 3] := by decide
theorem test_rb_peek_byte :
    (run (.rbPeekByte 0 2) (small (buf 0 [1, 2, 3]) .clearThenWrite)).ret = .byte 3 ∧
    (run (.rbPeekByte 0 3) (small (buf 0 [1, 2, 3]) .clearThenWrite)).ret = .byte 0 := by decide
/-- V-B7. -/
theorem test_rb_read :
    (run (.rbRead 0 3) (small (buf 6 [1, 2, 3, 4]) .clearThenWrite)).ret = .bytes [1, 2, 3] ∧
    ((run (.rbRead 0 3) (small (buf 6 [1, 2, 3, 4]) .clearThenWrite)).lane 0).rb.r = 1 := by decide
/-- V-B5. -/
theorem test_rb_skip :
    ((run (.rbSkip 0 1) (small (buf 0 [1, 2, 3]) .clearThenWrite)).lane 0).rb.content 8 = [2, 3] := by decide
/-- V-B12. -/
theorem test_rb_clear :
    ((run (.rbClear 0) (small (buf 0 [1, 2, 3]) .clearThenWrite)).lane 0).rb.count = 0 := by decide
/-- V-C3, V-C6. -/
theorem test_csum :
    (run (.csum 0x02 [0xFF]) s0).ret = .byte 0x02 ∧ (run (.csum 0x87 [0x07, 0x06]) s0).ret = .byte 0x96 := by decide
/-- V-E5. -/
theorem test_encode :
    (run (.encodeFrame 0x10 [0xAA, 0x55, 0x0D, 0x0A]) s0).ret =
      .bytes [0xAA, 0x55, 0x10, 0x04, 0xAA, 0x55, 0x0D, 0x0A, 0x2A, 0x0D, 0x0A] := by decide
/-- V-P25's second pass: 8 bytes, two header slips, six left. -/
theorem test_parse_all :
    (run (.parseAll 0) (small (buf 0 [9, 9, 9, 9, 9, 0xAA, 0x55, 0x83]) .clearThenWrite)).diag.hdrSlip = 2 ∧
    ((run (.parseAll 0) (small (buf 0 [9, 9, 9, 9, 9, 0xAA, 0x55, 0x83]) .clearThenWrite)).lane 0).rb.count = 6 := by decide
/-- V-P22's second pass. -/
theorem test_parse_all_frame :
    (run (.parseAll 0) (small (buf 5 [0xAA, 0x55, 0x83, 0x01, 0x01, 0x85, 0x0D, 0x0A]) .clearThenWrite)).ret =
      .frames [⟨0x83, [0x01], [0xAA, 0x55, 0x83, 0x01, 0x01, 0x85, 0x0D, 0x0A]⟩] := by decide
/-- R222: baud 0 fails; another latches the write timeout. -/
theorem test_open_lane :
    (run (.openLane 1 .active 0) s0).ret = .bool false ∧ ((run (.openLane 1 .active 9600) s0).lane 1).writeTo = 500000 := by
  decide
theorem test_arrive : (run (.arrive 1 0xAA) con) = con.setRet .unit ∧ ((run (.arrive 0 0xAA) con).lane 0).stg = [0xAA] := by
  decide
/-- V-S6's counterpart: an RX step with the staged bytes of an ACK. -/
theorem test_rx_step :
    ((run (.rxStep 0) { con with lanes := [{ openedLane .active with
      stg := [0xAA, 0x55, 0x81, 0x00, 0x81, 0x0D, 0x0A, 0xAA, 0x55, 0x82, 0x00, 0x82, 0x0D, 0x0A] }, Lane.reset] }).lane 0).rx =
      .delivering [.frameReceived [0xAA, 0x55, 0x81, 0x00, 0x81, 0x0D, 0x0A], .ackReceived .ack,
        .frameReceived [0xAA, 0x55, 0x82, 0x00, 0x82, 0x0D, 0x0A], .ackReceived .nack] := by decide
theorem test_transmit :
    ((run (.transmit 0 [0x01] .request) con).lane 0).wt = true ∧ (run (.transmit 0 [0x01] .request) con).req.send = .pending := by
  decide
/-- P1 step 5: the probe waits from now on. -/
theorem test_tx_done :
    (run (.txDone 0) pinging).probe 0 = ⟨.waiting, 0x5A, some 501000⟩ ∧ (run (.txDone 0) sending).req.send = .ok := by decide
/-- V-T1 and V-R25: at 501000 the active lane is torn down; at 500999 the step waits. -/
theorem test_write_timeout :
    (run (.writeTimeout 0) sending).ctlOut.map Event.record = [[0x02, 0x01, 0x00, 0x02]] ∧
    (run (.writeTimeout 0) sending).req.send = .fail ∧
    (run (.writeTimeout 0) { sending with now := 500999 }).ret = .waits := by decide
theorem test_stop_lane :
    ((run (.stopLane 0) sending).lane 0).txd = [0xAA, 0x55, 0x03] ∧ ((run (.stopLane 0) sending).lane 0).role = .closed := by
  decide
/-- V-S6, V-S7. -/
theorem test_port_fault :
    (run (.portFault 0) con).ctlOut.map Event.record = [[0x02, 0x01, 0x00, 0x01]] ∧
    (run (.portFault 0) (scn .waiting)).ctlOut = [] ∧ ((run (.portFault 0) (scn .waiting)).probe 0).st = .fail := by decide
theorem test_send_frame :
    (run (.sendFrame 1 0x03 [] .request) con).ret = .send .fail ∧ (run (.sendFrame 0 0x03 [] .request) con).ret = .send .queued :=
  by decide
theorem test_start_scan : (run .startScan s0).probes.map (fun b => b.st) = [.opening, .idle] := by decide
/-- P1 step 2. -/
theorem test_probe_open :
    ((run (.probeOpen 0) opening).lane 0).txq = [⟨[0xAA, 0x55, 0x02, 0x01, 0x5A, 0x5D, 0x0D, 0x0A], .probe⟩] := by decide
/-- V-T3: at 200700 the probe fails. -/
theorem test_probe_timer :
    ((run (.probeTimer 0) (scn .waiting)).probe 0).st = .fail ∧
    (run (.probeTimer 0) { scn .waiting with now := 200699 }).ret = .waits := by decide
theorem test_probe_frame :
    ((run (.probeFrame 0 ⟨0x83, [], [0xAA, 0x55, 0x83, 0x00, 0x83, 0x0D, 0x0A]⟩) (scn .waiting)).probe 0).st = .waiting := by
  decide
/-- R268's tie rule. -/
theorem test_arbitrate :
    (run (.arbitrate 0) { won with now := 3700, scan := { won.scan with winner := some 1 } }).scan.winner = some 0 ∧
    (run (.arbitrate 0) { won with now := 3701, scan := { won.scan with winner := some 1 } }).scan.winner = some 1 := by decide
/-- P1 step 11; V-S8's end. -/
theorem test_scan_end :
    (run .scanEnd won).ctlOut.map Event.record = [[0x01, 0x01, 0x00, 0x00]] ∧
    (run .scanEnd { won with lanes := [Lane.reset, Lane.reset] }).ctlOut.map Event.record = [[0x02, 0x01, 0x00, 0x01]] := by
  decide
theorem test_teardown : (run (.teardownActive .requested) con).conn = .disconnected := by decide
/-- V-R10; R347: BAD_REQUEST before NOT_CONNECTED. -/
theorem test_execute :
    (run (.execute ⟨0x08, [0, 0, 0, 0]⟩) s0).ctlOut = [.reqDone 0x08 .notConnected] ∧
    (run (.execute ⟨0x08, [0]⟩) s0).ctlOut = [.reqDone 0x08 .badRequest] := by decide
theorem test_protocol_send : (run (.protocolSend 0x03 []) con).req.phase = .send := by decide
/-- V-D4's rule for ReturnConfig: bytes beyond the schema are ignored. -/
theorem test_inbound :
    (run (.inbound ⟨0x84, List.replicate 22 7, []⟩) con).regs.lastConfig = List.replicate 21 7 := by decide
/-- V-R25's end; P1 steps 12 and 15. -/
theorem test_request_engine :
    (run (.requestEngineSteps .sendComplete) { sending with req := { sending.req with send := .fail } }).ctlOut =
      [.reqDone 0x05 .sendFail] ∧
    (run (.requestEngineSteps .scanComplete) (run .scanEnd won)).ctlOut = [.connected 0, .reqDone 0x03 .ok] ∧
    (run (.requestEngineSteps .retire) { s0 with req := { s0.req with busy := true, phase := .done } }).req.busy = false := by
  decide
/-- Section 3.10; R374's truncated frame. -/
theorem test_reset :
    stateWord (run .reset sending) = 0x0000FF00 ∧ ((run .reset sending).lane 0).txd = [0xAA, 0x55, 0x03] ∧
    (run .reset sending).now = 501000 := by decide

/-! ### The step -/

theorem test_step_request : step (s0.withFetchWord 8 0x00) = exec (.reservedReq00 []) s0 := by rfl
theorem test_step_waits : step s0 = .next s0 := by rfl
/-- R10: time does not pass a due expiry. -/
theorem test_step_advance :
    (match step { sending with inputs := [.env (.advance 1)] } with | .next t => t.ret | _ => .unit) = .waits := by decide
theorem test_step_refuses :
    (match step { s0 with inputs := [.request [0x03]] } with | .refused r => some r | _ => none) =
      some (.notADescriptor .truncated) := by decide

/-! ### Witnesses: for each statement with hypotheses, values that meet all of them, clause by clause -/

theorem witness_DecodeOfEncodeIsTheInstruction :
    params.wf ∧ (Instr.frameError 1 [0x07]).wf params = true ∧
    encode params (.frameError 1 [0x07]) = some (.rx 1 [0xAA, 0x55, 0x87, 0x01, 0x07, 0x8F, 0x0D, 0x0A]) ∧
    (Instr.setEnable [0x01]).wf params = true ∧
    encode params (.setEnable [0x01]) = some (.request [0x09, 0x01, 0x00, 0x01]) := by decide
theorem witness_DecodeOfCommandFrameBytes :
    params.wf ∧ (Instr.framePing 1 [0x5A]).wf params = true ∧
    encodeTx params (.framePing 1 [0x5A]) = some (1, [0xAA, 0x55, 0x02, 0x01, 0x5A, 0x5D, 0x0D, 0x0A]) := by decide
theorem witness_DecodedBytesAreTheirEncoding :
    decodeRequest [0x0B, 0x01, 0x00, 0x22] = .ok (.reservedReq0A 1 [0x22]) ∧
    decodeFrame [0xAA, 0x55, 0x03, 0x00, 0x03, 0x0D, 0x0A] = .ok (0x03, []) := by decide
theorem witness_StepRunsTheDecodedInstruction :
    (let s := { con with inputs := [.request [0x03, 0x00, 0x00]] }
     s.inputs = [.request [0x03, 0x00, 0x00]] ∧ decodeInput s.params (.request [0x03, 0x00, 0x00]) = .instr (.scan [])) ∧
    decodeInput params (.env (.advance 1)) = .env (.advance 1) ∧ decodeInput params (.rx 0 []) = .noise 0 [] ∧
    decodeInput params (.request []) = .reject .truncated ∧ con.inputs = [] := by decide
theorem witness_EveryStepAnswersANextState :
    ∀ d rest, ({ con with inputs := [.request [0x03, 0x00, 0x00]] } : State).inputs = .request d :: rest →
      ∃ op ops, ops.length ≤ 65535 ∧ d = descriptorBytes op ops := by
  intro d rest h
  obtain ⟨h, -⟩ := List.cons.inj h
  exact ⟨0x03, [], by decide, (Input.request.inj h).symm⟩
theorem witness_RegisterReadMap :
    (0x03#8).toNat / 4 * 4 = 0x00 ∧ (0x3F#8).toNat / 4 * 4 = 0x3C ∧ (0x40#8).toNat / 4 * 4 = 0x40 + 4 * 0 ∧
    (0x57#8).toNat / 4 * 4 = 0x40 + 4 * 5 ∧ (0x60#8).toNat / 4 * 4 = 0x60 + 4 * 0 ∧
    (0x87#8).toNat / 4 * 4 = 0x60 + 4 * 9 := by decide
theorem witness_UnmappedAndReadOnlyOffsets :
    (0x58 ≤ (0x58#8).toNat ∧ (0x58#8).toNat < 0x60) ∧ (0x58 ≤ (0x5F#8).toNat ∧ (0x5F#8).toNat < 0x60) ∧
    0x88 ≤ (0x88#8).toNat ∧ 0x88 ≤ (0xFF#8).toNat ∧ (0x03#8).toNat < 0x04 ∧ 0x14 ≤ (0x14#8).toNat := by decide
theorem witness_WritableRegistersStoreEveryValue :
    (0x07#8).toNat / 4 * 4 = 0x04 ∧ (0x08#8).toNat / 4 * 4 = 0x08 ∧ (0x0F#8).toNat / 4 * 4 = 0x0C ∧
    (0x13#8).toNat / 4 * 4 = 0x10 ∧ 0x04 ≤ (0x04#8).toNat ∧ (0x13#8).toNat < 0x14 := by decide
theorem witness_RingBufferWrite :
    (let s := small (buf 6 [1, 2, 3, 4, 5, 6]) .clearThenWrite
     0 < s.lanes.length ∧ (s.lane 0).rb.wf s.params.rbCap ∧
     [7, 8].length ≤ s.params.rbCap - (s.lane 0).rb.count ∧
     s.params.rbCap - (s.lane 0).rb.count < [7, 8, 9].length) := by decide
theorem witness_RingBufferIsFifo :
    (buf 6 [1, 2]).wf 8 ∧ (buf 6 [1, 2]).count + [[3, 4, 5], [], [6, 7, 8]].flatten.length ≤ 8 ∧
    [3, 0, 5].sum = (buf 6 [1, 2]).count + [[3, 4, 5], [], [6, 7, 8]].flatten.length := by decide
theorem witness_ReadSkipAndClear : 1 < (small (buf 6 [1, 2, 3]) .clearThenWrite).lanes.length := by decide
theorem witness_ChecksumDetectsOneByte :
    (0x88#8) ≠ 0x87#8 ∧ 1 < [0x07#8, 0x06#8].length ∧ byteAt [0x07#8, 0x06#8] 1 ≠ 0x05#8 := by decide
theorem witness_EncodeLaysOutTheFrame :
    (List.replicate 255 (0x00#8)).length ≤ 255 ∧ 255 < (List.replicate 256 (0x00#8)).length := by
  rw [List.length_replicate, List.length_replicate]; decide
theorem witness_ParserEndStateIsStable : 0 < (small (buf 0 [0xAA, 0x55, 0x03]) .clearThenWrite).lanes.length := by decide
theorem witness_FrameRoundTrip :
    (let s := small (buf 6 []) .clearAndDrop
     0 < s.lanes.length ∧ (s.lane 0).rb.wf s.params.rbCap ∧ (s.lane 0).rb.count = 0 ∧ [0x01#8].length ≤ 255 ∧
     7 + [0x01#8].length ≤ s.params.rbCap ∧ s.params.rbCap < 7 + [0x01#8, 0x02#8].length) := by decide
theorem witness_SplitFrameIsEmittedOnce :
    (let s := small (buf 6 []) .clearThenWrite
     0 < s.lanes.length ∧ (s.lane 0).rb.wf s.params.rbCap ∧ (s.lane 0).rb.count = 0 ∧ [0x01#8].length ≤ 255 ∧
     7 + [0x01#8].length ≤ s.params.rbCap ∧ [0x0A#8] ≠ [] ∧
     [[0xAA#8, 0x55#8, 0x83#8, 0x01#8], [], [0x01#8, 0x85#8, 0x0D#8]].flatten ++ [0x0A#8] = frameBytes 0x83 [0x01]) := by
  decide
/-- Nine bytes of garbage and a frame of seven, in chunks that each fit a buffer of eight. -/
def garbageChunks : List (List Byte) := [[9, 9, 9, 9, 0xAA, 9, 0x55, 9], [0xAA, 0xAA], [0x55, 0x03], [0x00, 0x03], [0x0D, 0x0A]]
theorem witness_GarbageThenFrame :
    (let s := small (buf 6 []) .clearThenWrite
     let g : List Byte := [9, 9, 9, 9, 0xAA, 9, 0x55, 9, 0xAA]
     0 < s.lanes.length ∧ (s.lane 0).rb.wf s.params.rbCap ∧ (s.lane 0).rb.count = 0 ∧ ([] : List Byte).length ≤ 255 ∧
     garbageChunks.flatten = g ++ frameBytes 0x03 [] ∧
     (∀ pre d post, garbageChunks = pre ++ d :: post →
       ((feedLane 0 pre s).1.lane 0).rb.count + d.length ≤ s.params.rbCap) ∧
     ∀ i, i + 1 < g.length → ¬ (byteAt g i = 0xAA#8 ∧ byteAt g (i + 1) = 0x55#8)) := by
  refine ⟨by decide, by decide, by decide, by decide, by decide, ?_, ?_⟩
  · intro pre d post h
    have hk : pre.length < 5 := by
      have := congrArg List.length h
      simp [garbageChunks] at this
      omega
    have h1 : pre = garbageChunks.take pre.length := by rw [h]; simp
    have h2 : d = garbageChunks.getD pre.length [] := by rw [h]; simp
    rw [h2]
    revert hk h1
    generalize pre.length = k
    intro hk h1
    subst h1
    clear h h2 d post
    revert k
    decide
  · intro i h
    have : i < 8 := Nat.lt_of_succ_lt_succ h
    revert this
    clear h
    revert i
    decide
/-- A buffer of seven bytes with no header, one with a wrong tail, one with a wrong checksum. -/
theorem witness_GarbageThenFrame_discard :
    0 < (small (buf 6 []) .clearThenWrite).lanes.length ∧
    (let x := (buf 6 [0xAA, 9, 9, 9, 9, 9, 9]).content 8
     7 ≤ x.length ∧ ¬ (byteAt x 0 = 0xAA#8 ∧ byteAt x 1 = 0x55#8)) ∧
    (let x := (buf 6 [0xAA, 0x55, 0x03, 0x00, 0x03, 0x0D, 0x0B]).content 8
     7 + (byteAt x 3).toNat ≤ x.length ∧ (byteAt x 0 = 0xAA#8 ∧ byteAt x 1 = 0x55#8) ∧
     ¬ (byteAt x (5 + (byteAt x 3).toNat) = 0x0D#8 ∧ byteAt x (6 + (byteAt x 3).toNat) = 0x0A#8)) ∧
    (let x := (buf 6 [0xAA, 0x55, 0x03, 0x00, 0x04, 0x0D, 0x0A]).content 8
     7 + (byteAt x 3).toNat ≤ x.length ∧ (byteAt x 0 = 0xAA#8 ∧ byteAt x 1 = 0x55#8) ∧
     (byteAt x (5 + (byteAt x 3).toNat) = 0x0D#8 ∧ byteAt x (6 + (byteAt x 3).toNat) = 0x0A#8) ∧
     byteAt x (4 + (byteAt x 3).toNat) ≠ csum (byteAt x 2) (slice x 4 (4 + (byteAt x 3).toNat))) := by decide
theorem witness_InboundEvents :
    con.params.wf ∧ (0x84#8 = con.params.code.returnConfig ∧ 21 ≤ (List.replicate 21 0x00#8).length) ∧
    (0x85#8 = con.params.code.returnStatus ∧ 37 ≤ (List.replicate 37 0x00#8).length) ∧
    (0x84#8 = con.params.code.returnConfig ∧ (List.replicate 20 0x00#8).length < 21) ∧
    (0x85#8 = con.params.code.returnStatus ∧ (List.replicate 36 0x00#8).length < 37) ∧
    0x87#8 = con.params.code.error ∧
    (0x81#8, AckKind.ack) ∈ [(con.params.code.ack, AckKind.ack), (con.params.code.nack, .nack), (con.params.code.sack, .sack)] ∧
    0x83#8 = con.params.code.pingAck ∧ 0x04#8 ∉ con.params.code.responses := by decide
theorem witness_FrameOnTheActiveLane :
    rxParts con.params.code (.frameOther 0 0x10 (List.replicate 57 0x00)) = some (0, 0x10, List.replicate 57 0x00) ∧
    0 < con.lanes.length ∧ (con.lane 0).role = .active ∧ (con.lane 0).rx = .idle ∧ (con.lane 0).stg = [] ∧
    (con.lane 0).rb.wf con.params.rbCap ∧ (con.lane 0).rb.count = 0 ∧ (List.replicate 57 0x00#8).length ≤ 255 ∧
    7 + (List.replicate 57 0x00#8).length ≤ con.params.rbCap ∧ 7 + (List.replicate 57 0x00#8).length ≤ con.params.rdChunk := by
  decide
theorem witness_FrameOnAClosedOrDeliveringLane :
    rxParts con.params.code (.frameAck 1 []) = some (1, 0x81, []) ∧ 1 < con.lanes.length ∧
    (con.lane 1).stg.length ≤ con.params.rdChunk ∧ (con.lane 1).role = .closed ∧ (con.lane 1).rx = .stopped ∧
    (let s := run (.frameAck 0 []) con
     (s.lane 0).role ≠ .closed ∧ (s.lane 0).stg.length ≤ s.params.rdChunk ∧ (s.lane 0).rx =
      .delivering [.frameReceived [0xAA, 0x55, 0x81, 0x00, 0x81, 0x0D, 0x0A], .ackReceived .ack]) := by decide
theorem witness_PingAckOnAProbeLane :
    (let s := scn .waiting
     rxParts s.params.code (.framePingAck 0 [0x5A]) = some (0, 0x83, [0x5A]) ∧ 0 < s.lanes.length ∧ 0 < s.probes.length ∧
     (s.lane 0).role = .probe ∧ (s.lane 0).rx = .idle ∧ (s.lane 0).stg = [] ∧ (s.lane 0).rb.wf s.params.rbCap ∧
     (s.lane 0).rb.count = 0 ∧ [0x5A#8].length ≤ 255 ∧ 7 + [0x5A#8].length ≤ s.params.rbCap ∧
     7 + [0x5A#8].length ≤ s.params.rdChunk ∧ 0x83#8 = s.params.code.pingAck ∧ [0x5A#8].head? = some (s.probe 0).nonce ∧
     (s.probe 0).st = .waiting) ∧ (scn .pinging).probe 0 = ⟨.pinging, 0x5A, none⟩ ∧
    0x82#8 ≠ params.code.pingAck ∧ [0x5B#8].head? ≠ some ((scn .waiting).probe 0).nonce ∧ ((scn .ok).probe 0).st = .ok := by
  decide
theorem witness_OpenLaneLatchesAndEmpties :
    (s0.pin 1).openOk = true ∧ (9600#32) ≠ 0 ∧ (s0.pin 2).openOk = false ∧ (0#32) = 0 := by decide
theorem witness_ByteArrival :
    1 < con.lanes.length ∧ (con.lane 1).stg.length ≤ con.params.rdChunk ∧ (con.lane 1).role = .closed ∧
    (con.lane 0).role ≠ .closed ∧ (con.lane 0).stg.length < con.params.rdChunk ∧
    (let s := { con with params := { params with rdChunk := 1 }, lanes := [{ openedLane .active with stg := [0xAA] }] }
     0 < s.lanes.length ∧ (s.lane 0).role ≠ .closed ∧ (s.lane 0).stg.length = s.params.rdChunk) := by decide
theorem witness_RxStepTakesOneChunk :
    (let s := { scn .waiting with lanes := [{ openedLane .probe with stg := [0xAA] }, Lane.reset] }
     0 < s.lanes.length ∧ (s.lane 0).rx = .idle ∧ (s.lane 0).stg ≠ [] ∧ (s.lane 0).role = .probe) ∧
    (let s := { con with lanes := [{ openedLane .active with stg := [0xAA] }, Lane.reset] }
     (s.lane 0).rx = .idle ∧ (s.lane 0).stg ≠ [] ∧ (s.lane 0).role = .active) ∧
    (let s := { s0 with lanes := [{ Lane.reset with rx := .idle, stg := [0xAA] }, Lane.reset] }
     (s.lane 0).rx = .idle ∧ (s.lane 0).stg ≠ [] ∧ (s.lane 0).role = .closed) ∧
    ¬ ((con.lane 0).rx = .idle ∧ (con.lane 0).stg ≠ []) := by decide
theorem witness_FramesJoinTheTxQueue :
    con.params.wf ∧ [0x5A#8].length ≤ 255 ∧ txParts con.params.code (.framePing 0 [0x5A]) = some (0, 0x02, [0x5A]) ∧
    (0x02#8) = con.params.code.ping ∧ txParts con.params.code (.frameGetConfig 1 []) = some (1, 0x03, []) ∧
    (0x03#8) ≠ con.params.code.ping ∧ (con.lane 0).role ≠ .closed ∧ (con.lane 1).role = .closed := by decide
theorem witness_TxDoneCompletesTheHead :
    0 < sending.lanes.length ∧ 0 < sending.probes.length ∧ (con.lane 0).txq = [] ∧
    (sending.lane 0).txq = [⟨[0xAA, 0x55, 0x03, 0x00, 0x03, 0x0D, 0x0A], .request⟩] ∧
    (pinging.lane 0).txq = [⟨[0xAA, 0x55, 0x02, 0x01, 0x5A, 0x5D, 0x0D, 0x0A], .probe⟩] ∧ (pinging.probe 0).st = .pinging := by
  decide
theorem witness_WriteTimeoutFailsTheHead :
    (sending.lane 0).txq = [⟨[0xAA, 0x55, 0x03, 0x00, 0x03, 0x0D, 0x0A], .request⟩] ∧ (sending.lane 0).wt = true ∧
    (sending.lane 0).txStart + (sending.lane 0).writeTo.toNat ≤ sending.now ∧
    500999 < (sending.lane 0).txStart + (sending.lane 0).writeTo.toNat ∧ (sending.lane 0).role = .active ∧
    sending.conn = .connected ∧ sending.active = 0 ∧ (sending.probe 0).st = .idle ∧
    (pinging.lane 0).txq = [⟨[0xAA, 0x55, 0x02, 0x01, 0x5A, 0x5D, 0x0D, 0x0A], .probe⟩] ∧ (pinging.lane 0).wt = true ∧
    (pinging.lane 0).txStart + (pinging.lane 0).writeTo.toNat ≤ pinging.now ∧ (pinging.lane 0).role = .probe ∧
    (pinging.probe 0).st = .pinging ∧
    (let s := { pinging with probes := [⟨.ok, 0x5A, none⟩, ⟨.fail, 0, none⟩] }
     (s.lane 0).role = .probe ∧ (s.probe 0).st ≠ .pinging ∧
     (s.lane 0).txStart + (s.lane 0).writeTo.toNat ≤ s.now) := by decide
theorem witness_StopLaneClosesTheLane : 1 < pinging.lanes.length ∧ 1 < pinging.probes.length := by decide
theorem witness_PortFaultByRole :
    1 < con.lanes.length ∧ 1 < con.probes.length ∧ (con.lane 1).role = .closed ∧ (con.lane 0).role = .active ∧
    con.conn = .connected ∧ ((scn .waiting).lane 0).role = .probe ∧ ((scn .waiting).probe 0).st = .waiting ∧
    ((scn .ok).probe 0).st = .ok ∧ (pinging.lane 0).role = .probe ∧ (pinging.probe 0).st = .pinging := by decide
theorem witness_StartScanRecordsEligiblePorts : s0.params.nPorts ≤ 32 ∧ s0.probes.length = s0.params.nPorts := by decide
theorem witness_ProbeOpenSendsThePing :
    0 < opening.lanes.length ∧ 0 < opening.probes.length ∧ (opening.probe 0).st = .opening ∧ opening.scan.baud ≠ 0 ∧
    (opening.pin 0).openOk = true ∧ ((scn .waiting).probe 0).st ≠ .opening ∧
    ({ opening with scan := { opening.scan with baud := 0 } } : State).scan.baud = 0 := by decide
theorem witness_ProbeTimerFailsTheProbe :
    0 < (scn .waiting).lanes.length ∧ 0 < (scn .waiting).probes.length ∧ ((scn .waiting).probe 0).timer = some 700 ∧
    ((scn .waiting).probe 0).st = .waiting ∧ 700 + (scn .waiting).scan.probeTo.toNat ≤ (scn .waiting).now ∧
    200699 < 700 + (scn .waiting).scan.probeTo.toNat ∧ ((scn .ok).probe 0).timer = none := by decide
theorem witness_FirstSuccessWins :
    (scn .waiting).scan.winner = none ∧ won.scan.winner = some 0 ∧ won.scan.tWin ≠ won.now ∧
    (let s := { won with now := 3700, scan := { won.scan with winner := some 1 } }
     s.scan.winner = some 1 ∧ s.scan.tWin = s.now ∧ 0 < 1 ∧ 1 ≤ 1) := by decide
theorem witness_ProbeFrameNeedsTheNonce :
    ((0x83#8) = (scn .waiting).params.code.pingAck ∧ [0x5A#8].head? = some ((scn .waiting).probe 0).nonce ∧
      ((scn .waiting).probe 0).st = .waiting) ∧ ((scn .pinging).probe 0).st = .pinging ∧
    ¬ ([0x5B#8].head? = some ((scn .waiting).probe 0).nonce) := by decide

/-- The states above meet the invariant that ties the lanes to the connection state. -/
theorem connInv_s0 : ConnInv s0 :=
  ⟨by decide, by decide, by decide, by decide, by decide, by decide, by decide, by decide, by decide, by decide, by decide,
    by decide, by decide⟩
theorem connInv_con : ConnInv con :=
  ⟨by decide, by decide, by decide, by decide, by decide, by decide, by decide, by decide, by decide, by decide, by decide,
    by decide, by decide⟩
theorem connInv_sending : ConnInv sending :=
  ⟨by decide, by decide, by decide, by decide, by decide, by decide, by decide, by decide, by decide, by decide, by decide,
    by decide, by decide⟩
theorem connInv_waiting : ConnInv (scn .waiting) :=
  ⟨by decide, by decide, by decide, by decide, by decide, by decide, by decide, by decide, by decide, by decide, by decide,
    by decide, by decide⟩
theorem connInv_won : ConnInv won :=
  ⟨by decide, by decide, by decide, by decide, by decide, by decide, by decide, by decide, by decide, by decide, by decide,
    by decide, by decide⟩
theorem engineInv_sending : EngineInv sending :=
  ⟨by decide, by decide, by decide, by decide, by decide, by decide, by decide⟩
theorem storageInv_sending : StorageInv sending := ⟨by decide, by decide, by decide, by decide⟩

theorem witness_ScanEndDecides :
    ConnInv (scn .waiting) ∧ (scn .waiting).conn = .scanning ∧ 0 < (scn .waiting).params.nPorts ∧
    ((scn .waiting).probe 0).st = .waiting := ⟨connInv_waiting, by decide, by decide, by decide⟩
theorem witness_ScanEndDecides_winner :
    ConnInv won ∧ won.conn = .scanning ∧
    (∀ p, p < won.params.nPorts → (won.probe p).st = .idle ∨ (won.probe p).st = .ok ∨ (won.probe p).st = .fail) ∧
    won.scan.winner = some 0 ∧ (won.lane 0).role = .probe := ⟨connInv_won, by decide, by decide, by decide, by decide⟩
/-- The winner's lane has faulted (V-S8), and no winner at all (V-S2). -/
theorem witness_ScanEndDecides_faulted :
    (let s := run (.portFault 0) won
     ConnInv s ∧ s.conn = .scanning ∧
     (∀ p, p < s.params.nPorts → (s.probe p).st = .idle ∨ (s.probe p).st = .ok ∨ (s.probe p).st = .fail) ∧
     s.scan.winner = some 0 ∧ (s.lane 0).role ≠ .probe) :=
  ⟨⟨by decide, by decide, by decide, by decide, by decide, by decide, by decide, by decide, by decide, by decide, by decide,
    by decide, by decide⟩, by decide, by decide, by decide, by decide⟩
theorem witness_ScanEndDecides_none :
    (let s := run (.probeTimer 0) (scn .waiting)
     ConnInv s ∧ s.conn = .scanning ∧
     (∀ p, p < s.params.nPorts → (s.probe p).st = .idle ∨ (s.probe p).st = .ok ∨ (s.probe p).st = .fail) ∧
     s.scan.winner = none) :=
  ⟨⟨by decide, by decide, by decide, by decide, by decide, by decide, by decide, by decide, by decide, by decide, by decide,
    by decide, by decide⟩, by decide, by decide, by decide⟩
theorem witness_TeardownEndsTheConnection :
    con.conn = .connected ∧ con.active < con.lanes.length ∧ s0.conn ≠ .connected := by decide
/-- From Disconnected and from Connected, with port 1, the highest. -/
theorem witness_ManualConnectByState :
    ConnInv s0 ∧ s0.req.busy = false ∧ s0.ctlOut = [] ∧ [0x01#8, 0x00#8, 0xC2#8, 0x01#8, 0x00#8].length = 5 ∧
    (byteAt [0x01#8, 0x00#8, 0xC2#8, 0x01#8, 0x00#8] 0).toNat < s0.params.nPorts ∧ s0.conn ≠ .scanning ∧
    le32 [0x01#8, 0x00#8, 0xC2#8, 0x01#8, 0x00#8] 1 ≠ 0 ∧ (s0.pin 1).openOk = true ∧
    ConnInv con ∧ con.conn = .connected ∧ con.req.busy = false ∧ con.ctlOut = [] ∧
    le32 [0x01#8, 0x00#8, 0x00#8, 0x00#8, 0x00#8] 1 = 0 :=
  ⟨connInv_s0, by decide, by decide, by decide, by decide, by decide, by decide, by decide, connInv_con, by decide, by decide,
    by decide, by decide⟩
theorem witness_ManualConnectByState_scanning :
    (let s := { scn .waiting with req := Req.reset }
     ConnInv s ∧ s.req.busy = false ∧ s.ctlOut = [] ∧ s.conn = .scanning) := by
  refine ⟨⟨by decide, by decide, by decide, by decide, by decide, by decide, by decide, by decide, by decide, by decide,
    by decide, by decide, by decide⟩, by decide, by decide, by decide⟩
theorem witness_DisconnectByState :
    con.req.busy = false ∧ con.ctlOut = [] ∧ con.active < con.lanes.length ∧ con.conn = .connected ∧
    s0.req.busy = false ∧ s0.ctlOut = [] ∧ s0.conn = .disconnected := by decide
theorem witness_ScanAndReconnectByState :
    ConnInv s0 ∧ s0.req.busy = false ∧ s0.ctlOut = [] ∧ s0.conn = .disconnected ∧
    ConnInv con ∧ con.req.busy = false ∧ con.ctlOut = [] ∧ con.conn = .connected :=
  ⟨connInv_s0, by decide, by decide, by decide, connInv_con, by decide, by decide, by decide⟩
theorem witness_DisconnectByState_scanning :
    (let s := { scn .waiting with req := Req.reset }
     s.req.busy = false ∧ s.ctlOut = [] ∧ (s.active < s.lanes.length ∨ s.conn ≠ .connected) ∧ s.conn = .scanning) := by
  decide
theorem witness_ScanAndReconnectByState_scanning :
    (let s := { scn .waiting with req := Req.reset }
     ConnInv s ∧ s.req.busy = false ∧ s.ctlOut = [] ∧ s.conn = .scanning) := witness_ManualConnectByState_scanning
theorem witness_ReservedOpcodesAreAnswered :
    s0.req.busy = false ∧ s0.ctlOut = [] ∧ requestParts (.reservedReq00 [0x11]) = some (0x00, [0x11]) ∧
    requestParts (.reservedReq0A 0 []) = some (0x0A, []) ∧ 0x0A ≤ (0x0A#8).toNat ∧
    requestParts (.reservedReq80 0x7F []) = some (0xFF, []) ∧ 0x0A ≤ (0xFF#8).toNat := by decide
/-- One case of each check: opcode 0A; MANUAL_CONNECT to port N_PORTS; 64 phases; GET_CONFIG while disconnected. -/
theorem witness_ExecuteChecksInOrder :
    0x0A ≤ (0x0A#8).toNat ∧ s0.params.nPorts ≤ (byteAt [0x02#8, 0, 0, 0, 0] 0).toNat ∧
    (List.replicate 256 0x00#8).length % 4 = 0 ∧ 63 < (List.replicate 256 0x00#8).length / 4 ∧
    0x05 ≤ (0x05#8).toNat ∧ s0.conn ≠ .connected := by
  rw [List.length_replicate]; decide
theorem witness_ProtocolRequestsHandOneFrame :
    con.conn = .connected ∧ con.active < con.lanes.length ∧ (con.lane con.active).role ≠ .closed ∧
    con.req.busy = false ∧ con.ctlOut = [] ∧ [0x00#8].length = 1 ∧ byteAt [0x00#8] 0 = 0 ∧ byteAt [0x02#8] 0 ≠ 0 ∧
    stimOlen (byteAt (List.replicate 21 0x00#8) 0) = some (List.replicate 21 0x00#8).length ∧
    (stimPayload con.params.stimCode (List.replicate 21 0x00#8)).length ≤ 255 ∧
    (List.replicate 252 0x00#8).length % 4 = 0 ∧ (List.replicate 252 0x00#8).length / 4 ≤ 63 := by
  rw [List.length_replicate (n := 252)]; decide
theorem witness_StimulationPayloadLayout :
    (byteAt (List.replicate 21 0x00#8) 0 = 0 ∧ (List.replicate 21 0x00#8).length = 21) ∧
    (byteAt (List.replicate 33 0x01#8) 0 = 1 ∧ (List.replicate 33 0x01#8).length = 33) ∧
    (byteAt (List.replicate 33 0x02#8) 0 = 2 ∧ (List.replicate 33 0x02#8).length = 33) ∧
    (byteAt (List.replicate 37 0x03#8) 0 = 3 ∧ (List.replicate 37 0x03#8).length = 37) := by decide
theorem witness_SendCompletePostsTheResult :
    sending.req.phase = .send ∧ sending.req.send = .pending ∧ (run (.txDone 0) sending).req.phase = .send ∧
    (run (.txDone 0) sending).req.send = .ok ∧ (run (.stopLane 0) sending).req.send = .fail ∧ s0.req.phase ≠ .send := by decide
theorem witness_ScanCompleteAndRetire :
    (let s := run .scanEnd won
     s.req.phase = .scan ∧ s.scan.active = false ∧
     (s.scan.result, Result.ok) ∈ [(ScanResult.ok, Result.ok), (.noDevice, .noDevice)]) ∧ won.scan.active = true ∧
    ({ s0 with req := { s0.req with phase := .done } } : State).req.phase = .done ∧ s0.ctlOut = [] ∧ s0.req.phase ≠ .done := by
  decide
theorem witness_TakeRunsTheRow :
    s0.req.busy = false ∧ s0.ctlOut = [] ∧ sending.req.busy = true ∧ requestParts (.scan []) = some (0x03, []) := by decide
/-- The bounds of the offsets of LAST_CONFIG and LAST_STATUS. -/
theorem witness_ResetStateIsGood :
    (0x40 ≤ (0x40#8).toNat ∧ (0x57#8).toNat < 0x58) ∧ 0x60 ≤ (0x60#8).toNat ∧ (0x87#8).toNat < 0x88 := by decide
theorem witness_ResetInput : 1 < sending.lanes.length := by decide
theorem witness_HostTakesEventsInOrder :
    (run (.disconnect []) con).ctlOut = [.disconnected .requested, .reqDone 0x04 .ok] ∧ s0.ctlOut = [] ∧
    ((run (.frameAck 0 []) con).lane 0).rx =
      .delivering [.frameReceived [0xAA, 0x55, 0x81, 0x00, 0x81, 0x0D, 0x0A], .ackReceived .ack] ∧
    (con.lane 0).rx = .idle ∧ (con.lane 1).rx = .stopped ∧
    500999 < (sending.lane 0).txStart + (sending.lane 0).writeTo.toNat ∧
    (sending.lane 0).txStart + (sending.lane 0).writeTo.toNat ≤ sending.now ∧
    ((scn .waiting).probe 0).st = .waiting ∧ ((scn .waiting).probe 0).timer = some 700 ∧
    200699 < 700 + (scn .waiting).scan.probeTo.toNat ∧
    700 + (scn .waiting).scan.probeTo.toNat ≤ (scn .waiting).now := by decide
theorem witness_StepKeepsStorageInForm :
    StorageInv sending ∧ ∃ t, step sending = .next t := ⟨storageInv_sending, _, rfl⟩
theorem witness_StepKeepsLanesAndConnectionInAgreement : ConnInv sending ∧ ∃ t, step sending = .next t :=
  ⟨connInv_sending, _, rfl⟩
theorem witness_StepKeepsEngineAndOutboxInAgreement :
    ConnInv sending ∧ EngineInv sending ∧ ∃ t, step sending = .next t :=
  ⟨connInv_sending, engineInv_sending, _, rfl⟩
theorem witness_OnlyScanEndOrResetLeavesScanning :
    (let s := { won with inputs := [.scanEnd] }
     ConnInv s ∧ s.conn = .scanning ∧ ∃ t, step s = .next t ∧ t.conn ≠ .scanning) :=
  ⟨⟨by decide, by decide, by decide, by decide, by decide, by decide, by decide, by decide, by decide, by decide, by decide,
    by decide, by decide⟩, by decide, _, rfl, by decide⟩
theorem witness_OneReqDoneARequest :
    ConnInv sending ∧ EngineInv sending ∧ (∃ t, step sending = .next t) ∧ sending.inputs.head? ≠ some .reset :=
  ⟨connInv_sending, engineInv_sending, ⟨_, rfl⟩, by decide⟩
/-- A Take from IDLE, and a Retire from DONE with an empty outbox. -/
theorem witness_OneReqDoneARequest_take :
    (let s := { con with inputs := [.request [0x04, 0x00, 0x00]] }
     ConnInv s ∧ EngineInv s ∧ s.inputs.head? ≠ some .reset ∧ s.req.busy = false ∧
     ∃ t, step s = .next t ∧ t.req.busy = true) :=
  ⟨connInv_con, ⟨by decide, by decide, by decide, by decide, by decide, by decide, by decide⟩, by decide, by decide, _, rfl,
    by decide⟩
theorem witness_OneReqDoneARequest_retire :
    (let s := { con with inputs := [.retire], req := { Req.reset with busy := true, phase := .done } }
     ConnInv s ∧ EngineInv s ∧ s.inputs.head? ≠ some .reset ∧ s.req.busy = true ∧
     ∃ t, step s = .next t ∧ t.req.busy = false) :=
  ⟨connInv_con, ⟨by decide, by decide, by decide, by decide, by decide, by decide, by decide⟩, by decide, by decide, _, rfl,
    by decide⟩
theorem witness_EventRecordBytes :
    (Event.connected 1).data.length ≤ 65535 ∧ (List.replicate 21 0x00#8).length = 21 ∧ (List.replicate 37 0x00#8).length = 37 := by
  decide

end Sys2Proof.Tests
end

/-! # The step: which instruction it runs, and that it always answers (00_scope.md R5, R7, R10, R16) -/

namespace Sys2Proof.Machine

/-! ## What one step runs, by what the next input decodes to -/

theorem step_of_inputs_nil {s : State} (h : s.inputs = []) : step s = .next s := by
  simp only [step, h]

section
variable {s : State} {x : Input} {rest : List Input}

theorem step_of_instr {i : Instr} (h : s.inputs = x :: rest) (hd : decodeInput s.params x = .instr i) :
    step s = exec i { s with inputs := rest } := by
  simp only [step, h, hd]

theorem step_of_env {e : EnvStep} (h : s.inputs = x :: rest) (hd : decodeInput s.params x = .env e) :
    step s = envStep e { s with inputs := rest } := by
  simp only [step, h, hd]

theorem step_of_noise {p : Nat} {b : List Byte} (h : s.inputs = x :: rest)
    (hd : decodeInput s.params x = .noise p b) :
    step s = .next ((rxLine p b { s with inputs := rest }).setRet .unit) := by
  simp only [step, h, hd, answer_eq]

theorem step_of_reject {e : DecodeError} (h : s.inputs = x :: rest) (hd : decodeInput s.params x = .reject e) :
    step s = .refused (.notADescriptor e) := by
  simp only [step, h, hd]

end

/-! ## A descriptor decodes -/

/-- R14: the two bytes of a number below 65536 read back as that number. -/
theorem le16_bytesLe16 {n : Nat} (h : n ≤ 65535) : le16 (bytesLe16 n) 0 = n := by
  simp only [le16, bytesLe16, byteAt, List.getD_cons_zero, List.getD_cons_succ, BitVec.toNat_ofNat]
  omega

/-- R120: the bytes of a descriptor decode to the row of its opcode. -/
theorem decodeRequest_descriptorBytes (op : Byte) {ops : List Byte} (h : ops.length ≤ 65535) :
    decodeRequest (descriptorBytes op ops) = .ok (requestInstr op ops) :=
  if_pos (le16_bytesLe16 h).symm

/-- Only bytes at the request port can be refused, and a descriptor is not. -/
theorem decodeInput_reject {pr : Params} {x : Input} {e : DecodeError} (h : decodeInput pr x = .reject e) :
    ∃ d, x = .request d ∧ ∀ op ops, ops.length ≤ 65535 → d ≠ descriptorBytes op ops := by
  cases x with
  | request d =>
    refine ⟨d, rfl, ?_⟩
    rintro op ops hlen rfl
    simp [decodeInput, decodeRequest_descriptorBytes op hlen] at h
  | bus w off v => cases w <;> cases h
  | rx p b =>
    simp only [decodeInput] at h
    split at h <;> cases h
  | _ => cases h

/-! ## Every meaning answers a next state -/

/-- A step that is enabled or waits answers a next state (R16). -/
theorem answer_or_waits_next (c : Prop) [Decidable c] (s t : State) (r : Ret) :
    ∃ u, (if c then answer t r else waits s) = .next u := by
  split
  · exact ⟨_, answer_eq t r⟩
  · exact ⟨_, waits_eq s⟩

theorem execEncodeFrame_next (c : Byte) (payload : List Byte) (s : State) :
    ∃ t, execEncodeFrame c payload s = .next t := by
  unfold execEncodeFrame
  split <;> exact ⟨_, answer_eq _ _⟩

theorem execTxDone_next (p : Nat) (s : State) : ∃ t, execTxDone p s = .next t := by
  unfold execTxDone
  split
  · exact ⟨_, waits_eq s⟩
  · exact ⟨_, answer_eq _ _⟩

theorem execWriteTimeout_next (p : Nat) (s : State) : ∃ t, execWriteTimeout p s = .next t := by
  unfold execWriteTimeout
  split
  · exact ⟨_, waits_eq s⟩
  · exact answer_or_waits_next _ _ _ _

theorem execSendComplete_next (s : State) : ∃ t, execSendComplete s = .next t := by
  unfold execSendComplete
  split
  · split
    · exact ⟨_, answer_eq _ _⟩
    · exact ⟨_, answer_eq _ _⟩
    · exact ⟨_, waits_eq s⟩
    · exact ⟨_, waits_eq s⟩
  · exact ⟨_, waits_eq s⟩

theorem execScanComplete_next (s : State) : ∃ t, execScanComplete s = .next t := by
  unfold execScanComplete
  split
  · split
    · exact ⟨_, answer_eq _ _⟩
    · exact ⟨_, answer_eq _ _⟩
    · exact ⟨_, waits_eq s⟩
  · exact ⟨_, waits_eq s⟩

theorem execRequestEngineSteps_next (k : EngineStep) (s : State) :
    ∃ t, execRequestEngineSteps k s = .next t := by
  cases k with
  | take d => exact answer_or_waits_next _ _ _ _
  | sendComplete => exact execSendComplete_next s
  | scanComplete => exact execScanComplete_next s
  | retire => exact answer_or_waits_next _ _ _ _

/-- R16: no meaning faults or refuses. The rows are grouped by how they answer: always, when enabled, or by the state
of the lane or of the request engine they look at. -/
theorem exec_next (i : Instr) (s : State) : ∃ t, exec i s = .next t := by
  cases i with
  | manualConnect | reconnect | scan | disconnect | getConfig | getStatus | setStimulation | setPhases | setEnable
  | reservedReq00 | reservedReq0A | reservedReq0C | reservedReq10 | reservedReq20 | reservedReq40 | reservedReq80
  | rxStep | probeOpen | probeTimer | scanEnd | teardownActive => exact answer_or_waits_next _ _ _ _
  | encodeFrame c payload => exact execEncodeFrame_next c payload s
  | txDone p => exact execTxDone_next p s
  | writeTimeout p => exact execWriteTimeout_next p s
  | requestEngineSteps k => exact execRequestEngineSteps_next k s
  | regRead | regWrite | frameEnableDisable | framePing | frameGetConfig | frameGetStatus | frameSetStimulation
  | frameSetPhases | frameAck | frameNack | framePingAck | frameReturnConfig | frameReturnStatus | frameSack
  | frameError | frameOther | rbWrite | rbPeek | rbPeekByte | rbRead | rbSkip | rbClear | csum | parseAll | openLane
  | arrive | transmit | stopLane | portFault | sendFrame | startScan | probeFrame | arbitrate | execute
  | protocolSend | inbound | reset => exact ⟨_, rfl⟩

/-! ## The steps of the environment -/

/-- R48: the host takes the head of the control outbox. -/
theorem takeCtl_cons {s : State} {e : Event} {rest : List Event} (h : s.ctlOut = e :: rest) :
    takeCtl s = .next { s with ctlOut := rest, delivered := s.delivered ++ [e], ret := .events [e] } := by
  simp only [takeCtl, h]; rfl

theorem takeCtl_nil {s : State} (h : s.ctlOut = []) : takeCtl s = .next (s.setRet .waits) := by
  simp only [takeCtl, h, waits_eq]

/-- R226: the host takes the head of a lane's RX engine, which is IDLE after the last one. -/
theorem takeLane_delivering {s : State} {p : Nat} {e : Event} {rest : List Event}
    (h : (s.lane p).rx = .delivering (e :: rest)) :
    takeLane p s = .next
      (({ s with delivered := s.delivered ++ [e], ret := .events [e] } : State).modLane p
        (fun l => { l with rx := if rest = [] then .idle else .delivering rest })) := by
  simp only [takeLane, h]; rfl

theorem takeLane_idle_or_stopped {s : State} {p : Nat} (h : (s.lane p).rx = .idle ∨ (s.lane p).rx = .stopped) :
    takeLane p s = .next (s.setRet .waits) := by
  rcases h with h | h <;> simp only [takeLane, h, waits_eq]

/-- An RX engine with no event left to deliver has none to take. -/
theorem takeLane_delivering_nil {s : State} {p : Nat} (h : (s.lane p).rx = .delivering []) :
    takeLane p s = .next (s.setRet .waits) := by
  simp only [takeLane, h, waits_eq]

/-- R229: when timer WT[p] has expired. -/
theorem writeTimeoutDue_iff {p : Nat} {s : State} : writeTimeoutDue p s = true ↔
    (s.lane p).wt = true ∧ (s.lane p).txq ≠ [] ∧ (s.lane p).txStart + (s.lane p).writeTo.toNat ≤ s.now := by
  simp [writeTimeoutDue, and_assoc]

/-- R266: when timer PT[p] has expired. -/
theorem probeTimerDue_iff {p : Nat} {s : State} : probeTimerDue p s = true ↔
    (s.probe p).st = .waiting ∧ ∃ t0, (s.probe p).timer = some t0 ∧ t0 + s.scan.probeTo.toNat ≤ s.now := by
  cases h : (s.probe p).timer <;> simp [probeTimerDue, h]

theorem timerDue_iff {s : State} : timerDue s = true ↔
    ∃ q, q < s.lanes.length ∧ (writeTimeoutDue q s = true ∨ probeTimerDue q s = true) := by
  simp [timerDue]

theorem advance_of_timerDue {s : State} (dt : Nat) (h : timerDue s = true) :
    advance dt s = .next (s.setRet .waits) :=
  if_pos h

theorem advance_of_not_timerDue {s : State} (dt : Nat) (h : ¬ timerDue s = true) :
    advance dt s = .next { s with now := s.now + dt, ret := .unit } :=
  if_neg h

/-- R16: no step of the environment faults or is refused. -/
theorem envStep_next (e : EnvStep) (s : State) : ∃ t, envStep e s = .next t := by
  cases e with
  | hostTakesCtl =>
    cases h : s.ctlOut with
    | nil => exact ⟨_, takeCtl_nil h⟩
    | cons e rest => exact ⟨_, takeCtl_cons h⟩
  | hostTakesLane p =>
    cases h : (s.lane p).rx with
    | stopped => exact ⟨_, takeLane_idle_or_stopped (.inr h)⟩
    | idle => exact ⟨_, takeLane_idle_or_stopped (.inl h)⟩
    | delivering evs =>
      cases evs with
      | nil => exact ⟨_, takeLane_delivering_nil h⟩
      | cons e rest => exact ⟨_, takeLane_delivering h⟩
  | advance dt =>
    by_cases hdue : timerDue s = true
    · exact ⟨_, advance_of_timerDue dt hdue⟩
    · exact ⟨_, advance_of_not_timerDue dt hdue⟩
  | setPin p pin => exact ⟨_, answer_eq _ _⟩

end Sys2Proof.Machine

/-! ## The obligations -/

section
open Sys2Proof Sys2Proof.Machine

/-- Settles O5, by the cases of what the next input decodes to. -/
theorem stepRunsTheDecodedInstruction : Obligations.StepRunsTheDecodedInstruction := by
  refine ⟨fun s x rest h => ⟨?_, ?_, ?_, ?_⟩, fun s h => step_of_inputs_nil h⟩
  · exact fun i hd => step_of_instr h hd
  · exact fun e hd => step_of_env h hd
  · exact fun p b hd => step_of_noise h hd
  · exact fun e hd => step_of_reject h hd

/-- Settles O6: every meaning and every environment step answers a next state, and what the decoder refuses is no
descriptor. -/
theorem everyStepAnswersANextState : Obligations.EveryStepAnswersANextState := by
  intro s hreq
  cases h : s.inputs with
  | nil => exact ⟨s, step_of_inputs_nil h⟩
  | cons x rest =>
    cases hd : decodeInput s.params x with
    | instr i => rw [step_of_instr h hd]; exact exec_next i _
    | noise p b => exact ⟨_, step_of_noise h hd⟩
    | env e => rw [step_of_env h hd]; exact envStep_next e _
    | reject e =>
      obtain ⟨d, rfl, hno⟩ := decodeInput_reject hd
      obtain ⟨op, ops, hlen, hdesc⟩ := hreq d rest h
      exact absurd hdesc (hno op ops hlen)

/-- Settles O54: one clause for each source of events, and time by whether a timer is due. -/
theorem hostTakesEventsInOrder : Obligations.HostTakesEventsInOrder := by
  refine fun s p => ⟨fun e rest h => takeCtl_cons h, fun h => takeCtl_nil h, fun e rest h => takeLane_delivering h,
    fun h => takeLane_idle_or_stopped h, ?_⟩
  simp only [← writeTimeoutDue_iff, ← probeTimerDue_iff]
  refine fun dt => ⟨fun hidle => advance_of_not_timerDue dt fun hdue => ?_,
    fun hdue => advance_of_timerDue dt (timerDue_iff.2 hdue)⟩
  obtain ⟨q, hq, hw | hp⟩ := timerDue_iff.1 hdue
  · exact (hidle q hq).1 hw
  · exact (hidle q hq).2 hp

end

/-! # What one step can do: the rows an input can name, the lane rows, and one inversion lemma for `step` -/

namespace Sys2Proof.Machine

/-! ## The rows of one format have one meaning -/

/-- R300: every request row is the offer of its descriptor. -/
theorem exec_of_requestParts {i : Instr} {op : Byte} {ops : List Byte} (h : requestParts i = some (op, ops))
    (s : State) : exec i s = offer ⟨op, ops⟩ s := by
  cases i <;> cases h <;> rfl

/-- R105, R106: every response row is its frame's bytes on the receive line. -/
theorem exec_of_rxParts {i : Instr} {p : Nat} {c : Byte} {pl : List Byte} {s : State}
    (h : rxParts s.params.code i = some (p, c, pl)) :
    exec i s = .next ((rxLine p (frameBytes c pl) s).setRet .unit) := by
  cases i <;> cases h <;> rfl

/-- R121-R129: what the request decoder names is a request row. -/
theorem requestParts_requestInstr (op : Byte) (ops : List Byte) :
    ∃ op' ops', requestParts (requestInstr op ops) = some (op', ops') := by
  have h : (requestParts (requestInstr op ops)).isSome := by
    simp only [requestInstr, apply_ite requestParts]
    simp only [requestParts, apply_ite Option.isSome, Option.isSome_some, ite_self]
  obtain ⟨⟨op', ops'⟩, h⟩ := Option.isSome_iff_exists.1 h
  exact ⟨op', ops', h⟩

/-- R105, R106: what the frame decoder names on a receive line is the row with that code and payload. -/
theorem rxParts_rxFrameInstr (codes : Codes) (p : Nat) (c : Byte) (pl : List Byte) :
    rxParts codes (rxFrameInstr codes p c pl) = some (p, c, pl) := by
  unfold rxFrameInstr
  split_ifs <;> simp_all [rxParts]

theorem decodeInput_request {pr : Params} {d : List Byte} {i : Instr}
    (h : decodeInput pr (.request d) = .instr i) : ∃ op ops, requestParts i = some (op, ops) := by
  simp only [decodeInput, decodeRequest] at h
  split at h
  · rename_i j hj
    cases h
    split at hj
    · split at hj
      · cases hj; exact requestParts_requestInstr _ _
      · cases hj
    · cases hj
  · cases h

theorem decodeInput_rx {pr : Params} {p : Nat} {b : List Byte} {i : Instr}
    (h : decodeInput pr (.rx p b) = .instr i) : ∃ c pl, rxParts pr.code i = some (p, c, pl) := by
  simp only [decodeInput, decodeRx] at h
  split at h
  · rename_i j hj
    cases h
    split at hj
    · cases hj; exact ⟨_, _, rxParts_rxFrameInstr _ _ _ _⟩
    · cases hj
  · cases h

/-! ## The stages of an RX step -/

/-- R224: an RX step's chunk of `k` staged bytes taken, written and parsed: the state, and the frames found. -/
def rxParsed (p k : Nat) (s : State) : State × List Frame :=
  parseAll p (rbWrite p ((s.lane p).stg.take k) (s.modLane p (fun l => { l with stg := l.stg.drop k })))

/-- R226: an RX step routes the frames of its chunk, and the RX engine delivers the events they give. -/
theorem rxChunk_eq (p k : Nat) (s : State) : rxChunk p k s =
    if (routeFrames p (rxParsed p k s).2 (rxParsed p k s).1).2 = [] then
      (routeFrames p (rxParsed p k s).2 (rxParsed p k s).1).1
    else (routeFrames p (rxParsed p k s).2 (rxParsed p k s).1).1.modLane p (fun l =>
      { l with rx := .delivering (routeFrames p (rxParsed p k s).2 (rxParsed p k s).1).2 }) := rfl

/-! ## The effects -/

/-- What an input can do to the state, but for the answer in `ret`, with the condition under which it does it: one
constructor for each operation an agent or the environment can take (R5), and `none` for a step that is not enabled
or only reads. -/
inductive Effect (s : State) : Input → State → Prop
  | none (x : Input) : Effect s x s
  | take {b : List Byte} {i : Instr} {d : Descriptor} (hi : decodeInput s.params (.request b) = .instr i)
      (hd : requestParts i = some (d.opcode, d.ops)) (hr : takeReady s = true) : Effect s (.request b) (take d s)
  | regWrite (off : Byte) (v : Word) : Effect s (.bus true off v) (writeReg off v s)
  | rxLine (p : Nat) (b bytes : List Byte) : Effect s (.rx p b) (rxLine p bytes s)
  | arrive (p : Nat) (b : Byte) : Effect s (.arrive p b) (arrive p b s)
  | rxStep {p : Nat} (hr : rxReady p s = true) : Effect s (.rxStep p) (rxStep p s)
  | txDone {p : Nat} {i : TxItem} {q : List TxItem} (hq : (s.lane p).txq = i :: q) :
      Effect s (.txDone p) (txDone p i.owner s)
  | writeTimeout {p : Nat} {i : TxItem} {q : List TxItem} (hq : (s.lane p).txq = i :: q)
      (hd : writeTimeoutDue p s = true) : Effect s (.writeTimeout p) (writeTimeout p i.owner s)
  | portFault (p : Nat) : Effect s (.portFault p) (portFault p s)
  | probeOpen {p : Nat} (hp : (s.probe p).st = .opening) : Effect s (.probeOpen p) (probeOpen p s)
  | probeTimer {p : Nat} (hd : probeTimerDue p s = true) : Effect s (.probeTimer p) (probeFail p s)
  | scanEnd (hr : scanEndReady s = true) : Effect s .scanEnd (scanEnd s)
  | sendComplete (ok : Bool) (hp : s.req.phase = .send) (hs : s.req.send = if ok then .ok else .fail) :
      Effect s .sendComplete (finish s.req.cur ok s)
  | scanComplete (r : Result) (hp : s.req.phase = .scan) (ha : s.scan.active = false) :
      Effect s .scanComplete (reqDone s.req.cur.opcode r s)
  | retire (hp : s.req.phase = .done) (ho : s.ctlOut = []) :
      Effect s .retire (s.modReq (fun q => { q with busy := false, phase := .idle }))
  | reset : Effect s .reset (resetBlock s)
  | hostTakesCtl {e : Event} {es : List Event} (ho : s.ctlOut = e :: es) :
      Effect s (.env .hostTakesCtl) (({ s with ctlOut := es } : State).deliver e)
  | hostTakesLane {p : Nat} {e : Event} {es : List Event} (hl : (s.lane p).rx = .delivering (e :: es)) :
      Effect s (.env (.hostTakesLane p))
        ((s.modLane p (fun l => { l with rx := if es = [] then .idle else .delivering es })).deliver e)
  | advance (dt : Nat) (hd : timerDue s ≠ true) : Effect s (.env (.advance dt)) { s with now := s.now + dt }
  | setPin (p : Nat) (pin : Pin) : Effect s (.env (.setPin p pin)) { s with pins := s.pins.modify p (fun _ => pin) }

/-- `t` is what the effect of `x` on `s` leaves, with some answer. -/
def Answers (s : State) (x : Input) (t : State) : Prop := ∃ u r, Effect s x u ∧ t = u.setRet r

section
variable {s t : State}

theorem answers_of_answer {x : Input} {u : State} {r : Ret} (h : answer u r = .next t) (he : Effect s x u) :
    Answers s x t :=
  ⟨u, r, he, answer_next h⟩

theorem answers_of_waits {x : Input} (h : waits s = .next t) : Answers s x t :=
  answers_of_answer h (.none x)

/-- A step that is taken when enabled and waits otherwise. -/
theorem answers_of_ite {x : Input} {c : Prop} [Decidable c] {u : State} {r : Ret}
    (h : (if c then answer u r else waits s) = .next t) (he : c → Effect s x u) : Answers s x t := by
  split at h
  · exact answers_of_answer h (he ‹_›)
  · exact answers_of_waits h

theorem answers_txDone {p : Nat} (h : execTxDone p s = .next t) : Answers s (.txDone p) t := by
  unfold execTxDone at h
  split at h
  · exact answers_of_waits h
  · exact answers_of_answer h (.txDone ‹_›)

theorem answers_writeTimeout {p : Nat} (h : execWriteTimeout p s = .next t) : Answers s (.writeTimeout p) t := by
  unfold execWriteTimeout at h
  split at h
  · exact answers_of_waits h
  · exact answers_of_ite h (.writeTimeout ‹_›)

theorem answers_sendComplete (h : execSendComplete s = .next t) : Answers s .sendComplete t := by
  unfold execSendComplete at h
  split at h
  · split at h
    · exact answers_of_answer h (.sendComplete true ‹_› ‹_›)
    · exact answers_of_answer h (.sendComplete false ‹_› ‹_›)
    · exact answers_of_waits h
    · exact answers_of_waits h
  · exact answers_of_waits h

theorem answers_scanComplete (h : execScanComplete s = .next t) : Answers s .scanComplete t := by
  unfold execScanComplete at h
  split at h
  · rename_i hc
    split at h
    · exact answers_of_answer h (.scanComplete .ok hc.1 hc.2)
    · exact answers_of_answer h (.scanComplete .noDevice hc.1 hc.2)
    · exact answers_of_waits h
  · exact answers_of_waits h

theorem answers_instr {x : Input} {i : Instr} (hd : decodeInput s.params x = .instr i) (h : exec i s = .next t) :
    Answers s x t := by
  cases x with
  | request b =>
    obtain ⟨op, ops, hp⟩ := decodeInput_request hd
    rw [exec_of_requestParts hp] at h
    exact answers_of_ite h (.take hd hp)
  | bus w off v =>
    cases w with
    | false => cases hd; exact answers_of_answer h (.none _)
    | true => cases hd; exact answers_of_answer h (.regWrite off v)
  | rx p b =>
    obtain ⟨c, pl, hp⟩ := decodeInput_rx hd
    rw [exec_of_rxParts hp] at h
    exact ⟨_, _, .rxLine p b _, (Host.Outcome.next.inj h).symm⟩
  | arrive p b => cases hd; exact answers_of_answer h (.arrive p b)
  | rxStep p => cases hd; exact answers_of_ite h .rxStep
  | txDone p => cases hd; exact answers_txDone h
  | writeTimeout p => cases hd; exact answers_writeTimeout h
  | portFault p => cases hd; exact answers_of_answer h (.portFault p)
  | probeOpen p => cases hd; exact answers_of_ite h .probeOpen
  | probeTimer p => cases hd; exact answers_of_ite h .probeTimer
  | scanEnd => cases hd; exact answers_of_ite h .scanEnd
  | sendComplete => cases hd; exact answers_sendComplete h
  | scanComplete => cases hd; exact answers_scanComplete h
  | retire => cases hd; exact answers_of_ite h fun hc => .retire hc.1 hc.2
  | reset => cases hd; exact answers_of_answer h .reset
  | env e => cases hd

theorem answers_noise {x : Input} {p : Nat} {b : List Byte} (hd : decodeInput s.params x = .noise p b) :
    Answers s x ((rxLine p b s).setRet .unit) := by
  cases x with
  | rx q c =>
    have hq : p = q := by
      simp only [decodeInput] at hd
      split at hd <;> cases hd
      rfl
    subst hq
    exact ⟨_, _, .rxLine p c b, rfl⟩
  | request d =>
    simp only [decodeInput] at hd
    split at hd <;> cases hd
  | bus w off v => cases w <;> cases hd
  | _ => cases hd

theorem answers_env {e : EnvStep} (h : envStep e s = .next t) : Answers s (.env e) t := by
  cases e with
  | hostTakesCtl =>
    change takeCtl s = .next t at h
    unfold takeCtl at h
    split at h
    · exact answers_of_waits h
    · exact answers_of_answer h (.hostTakesCtl ‹_›)
  | hostTakesLane p =>
    change takeLane p s = .next t at h
    unfold takeLane at h
    split at h
    · exact answers_of_waits h
    · exact answers_of_waits h
    · exact answers_of_waits h
    · exact answers_of_answer h (.hostTakesLane ‹_›)
  | advance dt =>
    change Sys2Proof.Machine.advance dt s = .next t at h
    unfold Sys2Proof.Machine.advance at h
    split at h
    · exact answers_of_waits h
    · exact answers_of_answer h (.advance dt ‹_›)
  | setPin p pin => exact answers_of_answer h (.setPin p pin)

theorem decodeInput_env {pr : Params} {x : Input} {e : EnvStep} (h : decodeInput pr x = .env e) : x = .env e := by
  cases x with
  | env f => cases h; rfl
  | request d =>
    simp only [decodeInput] at h
    split at h <;> cases h
  | rx p b =>
    simp only [decodeInput] at h
    split at h <;> cases h
  | bus w off v => cases w <;> cases h
  | _ => cases h

/-- What a step can do (R5): with no input nothing, else the effect of the next one. -/
theorem step_cases (h : step s = .next t) : (s.inputs = [] ∧ t = s) ∨
    ∃ x rest u r, s.inputs = x :: rest ∧ Effect { s with inputs := rest } x u ∧ t = u.setRet r := by
  cases hx : s.inputs with
  | nil =>
    rw [step_of_inputs_nil hx] at h
    exact .inl ⟨rfl, (Host.Outcome.next.inj h).symm⟩
  | cons x rest =>
    have ha : Answers { s with inputs := rest } x t := by
      cases hd : decodeInput s.params x with
      | instr i => rw [step_of_instr hx hd] at h; exact answers_instr hd h
      | noise p b =>
        rw [step_of_noise hx hd] at h
        rw [← Host.Outcome.next.inj h]
        exact answers_noise hd
      | env e =>
        rw [step_of_env hx hd] at h
        rw [decodeInput_env hd]
        exact answers_env h
      | reject e => rw [step_of_reject hx hd] at h; cases h
    obtain ⟨u, r, he, ht⟩ := ha
    exact .inr ⟨x, rest, u, r, rfl, he, ht⟩

/-- A predicate that reads neither the inputs left nor the last answer, and that every effect keeps, is kept by every
step. -/
theorem step_keeps {P : State → Prop} (hP : ∀ (s : State) inputs ret, P { s with inputs := inputs, ret := ret } ↔ P s)
    (he : ∀ {s u : State} {x : Input}, P s → Effect s x u → P u) (hs : P s) (h : step s = .next t) : P t := by
  rcases step_cases h with ⟨-, rfl⟩ | ⟨x, rest, u, r, -, hu, rfl⟩
  · exact hs
  · exact (hP u u.inputs r).2 (he ((hP s rest s.ret).2 hs) hu)

end

end Sys2Proof.Machine

/-! # The storage stays in form (10_state.md R3, R32, R33, R40, R42) -/

namespace Sys2Proof.Machine

/-- The storage is in form, under the parameters `pr`. -/
def StorageOf (pr : Params) (s : State) : Prop := StorageInv s ∧ s.params = pr

/-- One lane's part of the storage: its ring buffer (R40) and its staging FIFO (R42). -/
def Lane.StorageOk (pr : Params) (l : Lane) : Prop := l.rb.wf pr.rbCap ∧ l.stg.length ≤ pr.rdChunk

/-- The two LAST registers hold their 21 and 37 bytes (R32, R33). -/
def Regs.SizesOk (g : Regs) : Prop := g.lastConfig.length = 21 ∧ g.lastStatus.length = 37

theorem storageOf_iff {pr : Params} {s : State} : StorageOf pr s ↔
    s.params = pr ∧ pr.wf ∧ (∀ l ∈ s.lanes, l.StorageOk pr) ∧ s.regs.SizesOk := by
  refine ⟨fun ⟨⟨hw, hl, hg⟩, hp⟩ => ?_, fun ⟨hp, hw, hl, hg⟩ => ⟨⟨?_, ?_, hg⟩, hp⟩⟩
  · subst hp; exact ⟨rfl, hw, hl, hg⟩
  · rw [hp]; exact hw
  · rw [hp]; exact hl

section
variable {pr : Params} {s : State}

/-! ## One lane -/

theorem Lane.StorageOk.clear {l l' : Lane} (h : l.StorageOk pr) (hrb : l'.rb = l.rb.clear) (hstg : l'.stg = []) :
    l'.StorageOk pr := by
  refine ⟨?_, ?_⟩
  · rw [hrb]; exact RingBuf.wf_clear h.1
  · rw [hstg]; exact Nat.zero_le _

theorem Lane.StorageOk.queued {l : Lane} (i : TxItem) (now : Nat) (h : l.StorageOk pr) :
    (l.queued i now).StorageOk pr := by
  unfold Lane.queued; split <;> exact h

theorem Lane.StorageOk.headSent {l : Lane} (h : l.StorageOk pr) : l.headSent.StorageOk pr := by
  unfold Lane.headSent; split <;> exact h

theorem Lane.StorageOk.startNext {l : Lane} (now : Nat) (h : l.StorageOk pr) : (l.startNext now).StorageOk pr := by
  unfold Lane.startNext; split <;> exact h

/-! ## Changes of the state -/

theorem StorageOf.lane (h : StorageOf pr s) (p : Nat) : (s.lane p).StorageOk pr := by
  obtain ⟨-, ⟨-, -, -, hcap, -⟩, hl, -⟩ := storageOf_iff.1 h
  unfold State.lane
  rw [List.getD_eq_getElem?_getD]
  cases hp : s.lanes[p]? with
  | some l => exact hl l (List.mem_of_getElem? hp)
  | none => exact ⟨RingBuf.wf_empty hcap, Nat.zero_le _⟩

theorem StorageOf.modLane {p : Nat} {f : Lane → Lane} (h : StorageOf pr s) (hf : (f (s.lane p)).StorageOk pr) :
    StorageOf pr (s.modLane p f) := by
  obtain ⟨hp, hw, hl, hg⟩ := storageOf_iff.1 h
  refine storageOf_iff.2 ⟨hp, hw, fun l hmem => ?_, hg⟩
  obtain ⟨q, hq⟩ := List.mem_iff_getElem?.1 hmem
  rw [State.modLane_lanes, List.getElem?_modify] at hq
  obtain ⟨l₀, hl₀, rfl⟩ := Option.map_eq_some_iff.1 hq
  split
  · rename_i hpq
    have : s.lane p = l₀ := by rw [State.lane, List.getD_eq_getElem?_getD, hpq, hl₀]; rfl
    rwa [this] at hf
  · exact hl l₀ (List.mem_of_getElem? hl₀)

theorem StorageOf.modRegs {f : Regs → Regs} (h : StorageOf pr s) (hf : ∀ g, g.SizesOk → (f g).SizesOk) :
    StorageOf pr (s.modRegs f) := by
  obtain ⟨hp, hw, hl, hg⟩ := storageOf_iff.1 h
  exact storageOf_iff.2 ⟨hp, hw, hl, hf _ hg⟩

theorem StorageOf.setRb {p : Nat} {b : RingBuf} (h : StorageOf pr s) (hb : b.wf pr.rbCap) :
    StorageOf pr (s.setRb p b) :=
  h.modLane ⟨hb, (h.lane p).2⟩

/-! ## The shared operations -/

theorem StorageOf.stopLane (h : StorageOf pr s) (p : Nat) : StorageOf pr (stopLane p s) := by
  rw [stopLane_eq]
  exact StorageOf.modLane h ((h.lane p).clear rfl rfl)

theorem StorageOf.openLane (h : StorageOf pr s) (p : Nat) (role : Role) (baud : Word) :
    StorageOf pr (openLane p role baud s).1 := by
  rcases openLane_cases p role baud s with ⟨-, e⟩ | ⟨-, -, e⟩ <;> rw [e]
  · exact h
  · exact h.modLane ((h.lane p).clear rfl rfl)

theorem StorageOf.sendFrame (h : StorageOf pr s) (p : Nat) (c : Byte) (payload : List Byte) (o : Owner) :
    StorageOf pr (sendFrame p c payload o s).1 := by
  rcases sendFrame_cases p c payload o s with ⟨-, e⟩ | ⟨-, -, e⟩ <;> rw [e]
  · exact h
  · rw [transmit_eq]
    exact StorageOf.modLane h ((h.lane p).queued _ _)

theorem StorageOf.probeFail (h : StorageOf pr s) (p : Nat) : StorageOf pr (probeFail p s) := by
  rcases probeFail_cases p s with ⟨-, e⟩ | ⟨-, e⟩ <;> rw [e]
  · exact StorageOf.stopLane (s := s.modProbe p _) h p
  · exact h

theorem StorageOf.teardownActive (h : StorageOf pr s) (reason : Reason) :
    StorageOf pr (teardownActive reason s) := by
  rcases teardownActive_cases reason s with ⟨-, e⟩ | ⟨-, e⟩ <;> rw [e]
  · exact h.stopLane _
  · exact h

theorem StorageOf.becomeConnected (h : StorageOf pr s) (p : Nat) : StorageOf pr (becomeConnected p s) :=
  StorageOf.modRegs (s := s.setConn _ p) h fun _ hg => hg

/-! ## Requests and the register bus -/

theorem StorageOf.writeReg (h : StorageOf pr s) (off : Byte) (v : Word) : StorageOf pr (writeReg off v s) := by
  unfold Machine.writeReg
  split <;> exact h

theorem StorageOf.beginScan (h : StorageOf pr s) : StorageOf pr (beginScan s) := h

theorem StorageOf.manualConnect (h : StorageOf pr s) (op : Byte) (p : Nat) (baud : Word) :
    StorageOf pr (manualConnect op p baud s) := by
  have ho := (h.teardownActive .requested).openLane p .active baud
  unfold Machine.manualConnect
  split
  · exact h
  all_goals
    split
    · rename_i u heq; rw [heq] at ho; exact StorageOf.becomeConnected ho p
    · rename_i u heq; rw [heq] at ho; exact ho

theorem StorageOf.disconnect (h : StorageOf pr s) (op : Byte) : StorageOf pr (disconnect op s) := by
  unfold Machine.disconnect
  split
  · exact h.teardownActive .requested
  · exact h
  · exact h

theorem StorageOf.reconnect (h : StorageOf pr s) (op : Byte) : StorageOf pr (reconnect op s) := by
  unfold Machine.reconnect
  split
  · exact (h.teardownActive .reconnect).beginScan
  · exact h.beginScan
  · exact h

theorem StorageOf.scanRequest (h : StorageOf pr s) (op : Byte) : StorageOf pr (scanRequest op s) := by
  unfold Machine.scanRequest
  split
  · exact h.beginScan
  · exact h

theorem StorageOf.protocolSend (h : StorageOf pr s) (c : Byte) (payload : List Byte) :
    StorageOf pr (protocolSend c payload s) := by
  have hs := StorageOf.sendFrame (s := s.modReq fun q => { q with phase := .send }) h s.active c payload .request
  unfold Machine.protocolSend
  split <;> rename_i u heq <;> rw [heq] at hs <;> exact hs

theorem StorageOf.execute (h : StorageOf pr s) (d : Descriptor) : StorageOf pr (execute d s) := by
  unfold Machine.execute
  split
  · exact h
  · split
    · exact h
    · rename_i k _
      cases k with
      | manualConnect => exact h.manualConnect _ _ _
      | reconnect => exact h.reconnect _
      | scan => exact h.scanRequest _
      | disconnect => exact h.disconnect _
      | getConfig | getStatus | setStimulation | setPhases | setEnable => exact h.protocolSend _ _

theorem StorageOf.finish (h : StorageOf pr s) (d : Descriptor) (ok : Bool) : StorageOf pr (finish d ok s) := by
  unfold Machine.finish
  cases ok
  · exact h
  · by_cases hs : d.opcode = 0x07#8 <;> simp only [hs, if_true, if_false] <;> exact h

/-! ## The receive path -/

theorem StorageOf.arrive (h : StorageOf pr s) (p : Nat) (b : Byte) : StorageOf pr (arrive p b s) := by
  unfold Machine.arrive
  split
  · exact h
  split
  · exact h
  · rename_i hroom
    rw [h.2] at hroom
    refine h.modLane ⟨(h.lane p).1, ?_⟩
    rw [List.length_append, List.length_singleton]
    omega

theorem StorageOf.rbWrite (h : StorageOf pr s) (p : Nat) (data : List Byte) : StorageOf pr (rbWrite p data s) := by
  rw [rbWrite_eq, h.2]
  exact StorageOf.setRb h (RingBuf.write_spec (h.lane p).1 _ _).1

theorem StorageOf.parseAll (h : StorageOf pr s) (p : Nat) : StorageOf pr (parseAll p s).1 := by
  simp only [Machine.parseAll, h.2]
  exact StorageOf.setRb h (parseLoop_wf _ _ _ (h.lane p).1)

theorem StorageOf.decodeConfig (h : StorageOf pr s) (f : Frame) : StorageOf pr (decodeConfig f s).1 := by
  unfold Machine.decodeConfig
  split
  · exact h
  · exact h.modRegs fun g hg => ⟨by rw [Regs.withConfig_lastConfig, List.length_take]; omega, hg.2⟩

theorem StorageOf.decodeStatus (h : StorageOf pr s) (f : Frame) : StorageOf pr (decodeStatus f s).1 := by
  unfold Machine.decodeStatus
  split
  · exact h
  · exact h.modRegs fun g hg => ⟨hg.1, by rw [Regs.withStatus_lastStatus, List.length_take]; omega⟩

theorem StorageOf.inbound (h : StorageOf pr s) (f : Frame) : StorageOf pr (inbound f s).1 := by
  have he : StorageOf pr (decodeError f s).1 := by
    unfold decodeError; split <;> exact h
  simp only [Machine.inbound, inboundTyped]
  repeat' split
  · exact h.decodeConfig f
  · exact h.decodeStatus f
  · exact he
  all_goals exact h

theorem StorageOf.probeFrame (h : StorageOf pr s) (p : Nat) (f : Frame) : StorageOf pr (probeFrame p f s) := by
  obtain ⟨probes, scan, hits, e⟩ := probeFrame_changes p f s
  rw [e]
  exact h

theorem StorageOf.routeFrames (p : Nat) (fs : List Frame) : ∀ {s : State}, StorageOf pr s →
    StorageOf pr (routeFrames p fs s).1 := by
  induction fs with
  | nil => exact fun h => h
  | cons f fs ih =>
    intro s h
    have h1 : StorageOf pr (routeFrame p f s).1 := by
      unfold routeFrame
      split
      · exact h.inbound f
      · exact h.probeFrame p f
      · exact h
    exact ih h1

theorem StorageOf.rxChunk (h : StorageOf pr s) (p k : Nat) : StorageOf pr (rxChunk p k s) := by
  have hdrop : StorageOf pr (s.modLane p fun l => { l with stg := l.stg.drop k }) :=
    h.modLane ⟨(h.lane p).1, Nat.le_trans (by simp) (h.lane p).2⟩
  have hparsed : StorageOf pr (rxParsed p k s).1 := (hdrop.rbWrite p ((s.lane p).stg.take k)).parseAll p
  have hroute := StorageOf.routeFrames p (rxParsed p k s).2 hparsed
  rw [rxChunk_eq]
  split
  · exact hroute
  · exact hroute.modLane ⟨(hroute.lane p).1, (hroute.lane p).2⟩

theorem StorageOf.rxLine (h : StorageOf pr s) (p : Nat) (bytes : List Byte) : StorageOf pr (rxLine p bytes s) := by
  have harr : StorageOf pr (bytes.foldl (fun t b => Machine.arrive p b t) s) :=
    List.foldlRecOn bytes _ h fun _ ht b _ => ht.arrive p b
  simp only [Machine.rxLine]
  split
  · exact harr.rxChunk p _
  · exact harr

/-! ## The transmit path -/

theorem StorageOf.txDone (h : StorageOf pr s) (p : Nat) (o : Owner) : StorageOf pr (txDone p o s) := by
  have hn : StorageOf pr (notifyOk p o (s.modLane p Lane.headSent)) := by
    have hs : StorageOf pr (s.modLane p Lane.headSent) := h.modLane (h.lane p).headSent
    unfold notifyOk
    split
    · exact hs
    · split <;> exact hs
  exact hn.modLane ((hn.lane p).startNext _)

theorem StorageOf.writeTimeout (h : StorageOf pr s) (p : Nat) (o : Owner) : StorageOf pr (writeTimeout p o s) := by
  have hn : StorageOf pr (notifyFail p o (s.modLane p (Lane.headFailed (s.pin p).cut))) := by
    have hs : StorageOf pr (s.modLane p (Lane.headFailed (s.pin p).cut)) := h.modLane (h.lane p)
    unfold notifyFail
    split
    · exact hs
    · split
      · exact hs.probeFail p
      · exact hs
  simp only [Machine.writeTimeout]
  split
  · exact hn.teardownActive _
  · exact hn

theorem StorageOf.portFault (h : StorageOf pr s) (p : Nat) : StorageOf pr (portFault p s) := by
  unfold Machine.portFault
  split
  · exact h.teardownActive _
  · exact h.probeFail p
  · exact h

/-! ## The scan, reset and the host -/

theorem StorageOf.probeOpen (h : StorageOf pr s) (p : Nat) : StorageOf pr (probeOpen p s) := by
  have ho := h.openLane p .probe s.scan.baud
  unfold Machine.probeOpen
  split <;> rename_i u heq <;> rw [heq] at ho
  · exact ho
  · exact StorageOf.sendFrame (s := u.modProbe p _) ho p _ _ _

theorem StorageOf.scanEnd (h : StorageOf pr s) : StorageOf pr (scanEnd s) := by
  have hstop : StorageOf pr (stopLosers s) := by
    refine List.foldlRecOn _ _ h fun t ht p _ => ?_
    split
    · exact ht.stopLane p
    · exact ht
  simp only [Machine.scanEnd]
  split
  · exact hstop
  · rename_i w _
    split
    · exact StorageOf.becomeConnected (StorageOf.modLane hstop (hstop.lane w)) w
    · exact hstop

theorem StorageOf.resetBlock (h : StorageOf pr s) : StorageOf pr (resetBlock s) := by
  obtain ⟨hp, hw, hl, -⟩ := storageOf_iff.1 h
  refine storageOf_iff.2 ⟨hp, hw, fun l hmem => ?_, rfl, rfl⟩
  obtain ⟨p, hlt, rfl⟩ := List.mem_mapIdx.1 hmem
  exact (hl _ (List.getElem_mem hlt)).clear rfl rfl

/-! ## Every step -/

/-- Every effect keeps the storage in form and the parameters. -/
theorem StorageOf.effect {u : State} {x : Input} (h : StorageOf pr s) (he : Effect s x u) : StorageOf pr u := by
  cases he with
  | none => exact h
  | take => exact StorageOf.execute (s := s.modReq _) h _
  | regWrite off v => exact h.writeReg off v
  | rxLine p b bytes => exact h.rxLine p bytes
  | arrive p b => exact h.arrive p b
  | rxStep => exact h.rxChunk _ _
  | txDone => exact h.txDone _ _
  | writeTimeout => exact h.writeTimeout _ _
  | portFault p => exact h.portFault p
  | probeOpen => exact h.probeOpen _
  | probeTimer => exact h.probeFail _
  | scanEnd => exact h.scanEnd
  | sendComplete ok => exact h.finish _ ok
  | scanComplete | retire | hostTakesCtl | advance | setPin => exact h
  | reset => exact h.resetBlock
  | hostTakesLane => exact StorageOf.modLane h (h.lane _)

end

end Sys2Proof.Machine

section
open Sys2Proof Sys2Proof.Machine

/-- Settles O55: every effect keeps the storage in form under the parameters that stand at the start. -/
theorem stepKeepsStorageInForm : Obligations.StepKeepsStorageInForm := fun s _ hs h =>
  step_keeps (P := StorageOf s.params) (fun _ _ _ => Iff.rfl) StorageOf.effect ⟨hs, rfl⟩ h

end

/-! # The lanes and the connection state agree (10_state.md R22, R23, R43, R235, R260) -/

namespace Sys2Proof.Machine

/-! ## The invariant, port by port -/

/-- An open lane in itself: its RX engine runs, its write timer runs exactly while a frame is queued, a probe lane
holds at most its Ping, and what it delivers is there and is no REQ_DONE. -/
theorem laneInv_of_open {l : Lane} (ho : l.role ≠ .closed) : LaneInv l ↔
    l.rx ≠ .stopped ∧ (l.wt = true ↔ l.txq ≠ []) ∧ (l.role = .probe → l.txq.length ≤ 1) ∧
    l.rx ≠ .delivering [] ∧ reqDones l.rxEvents = 0 := by
  simp [LaneInv, ho]

/-- A closed lane in itself: nothing runs and nothing is held. -/
theorem laneInv_of_closed {l : Lane} (hc : l.role = .closed) : LaneInv l ↔
    l.rx = .stopped ∧ l.txq = [] ∧ l.stg = [] ∧ l.rb.count = 0 ∧ l.wt = false := by
  have he : l.rx = .stopped → l.rx ≠ .delivering [] ∧ reqDones l.rxEvents = 0 := fun h => by
    simp [Lane.rxEvents, h, reqDones]
  have hw : l.txq = [] → ((l.wt = true ↔ l.txq ≠ []) ↔ l.wt = false) := fun h => by simp [h]
  simp only [LaneInv, hc, iff_true, true_imp_iff, reduceCtorEq, false_imp_iff, true_and]
  exact ⟨fun ⟨hx, ⟨hq, hs, hb⟩, hwt, _⟩ => ⟨hx, hq, hs, hb, (hw hq).1 hwt⟩,
    fun ⟨hx, hq, hs, hb, hwt⟩ => ⟨hx, ⟨hq, hs, hb⟩, (hw hq).2 hwt, he hx⟩⟩

/-- Port `p` of `ConnInv`: its lane and its probe, under connection state `c` with active lane `a`. -/
def PortInv (c : Conn) (a p : Nat) (l : Lane) (b : Probe) : Prop :=
  LaneInv l ∧ (b.timer ≠ none ↔ b.st = .waiting) ∧
  (c = .disconnected → l.role = .closed) ∧
  (c = .connected → l.role = if p = a then .active else .closed) ∧
  (c ≠ .scanning → b.st = .idle) ∧
  (c = .scanning → ProbeLaneInv l b)

/-- The part of `ConnInv` that speaks of no single port. -/
def ControlInv (s : State) : Prop :=
  s.params.nPorts ≤ 32 ∧ s.lanes.length = s.params.nPorts ∧ s.probes.length = s.params.nPorts ∧
  (s.scan.active = true ↔ s.conn = .scanning) ∧
  (s.conn = .connected → s.active < s.params.nPorts) ∧
  (s.conn ≠ .connected → s.active = noPort) ∧
  (s.conn = .scanning → s.scan.winner.all (fun w => w < s.params.nPorts) = true)

theorem connInv_iff {s : State} : ConnInv s ↔
    ControlInv s ∧ ∀ p < s.params.nPorts, PortInv s.conn s.active p (s.lane p) (s.probe p) := by
  constructor
  · rintro ⟨hn, hl, hb, lane, timer, scan, act, noAct, disc, con, idle, probing, win⟩
    exact ⟨⟨hn, hl, hb, scan, act, noAct, win⟩, fun p hp => ⟨lane p hp, timer p hp, fun h => disc h p hp,
      fun h => con h p hp, fun h => idle h p hp, fun h => probing h p hp⟩⟩
  · rintro ⟨⟨hn, hl, hb, scan, act, noAct, win⟩, port⟩
    refine ⟨hn, hl, hb, fun p hp => ?_, fun p hp => ?_, scan, act, noAct, fun h p hp => ?_, fun h p hp => ?_,
      fun h p hp => ?_, fun h p hp => ?_, win⟩
    all_goals obtain ⟨lane, timer, disc, con, idle, probing⟩ := port p hp
    · exact lane
    · exact timer
    · exact disc h
    · exact con h
    · exact idle h
    · exact probing h

section
variable {a p : Nat} {l : Lane} {b : Probe}

theorem portInv_disconnected : PortInv .disconnected a p l b ↔
    LaneInv l ∧ (b.timer ≠ none ↔ b.st = .waiting) ∧ l.role = .closed ∧ b.st = .idle := by
  simp [PortInv]

theorem portInv_connected : PortInv .connected a p l b ↔
    LaneInv l ∧ (b.timer ≠ none ↔ b.st = .waiting) ∧ (l.role = if p = a then .active else .closed) ∧ b.st = .idle := by
  simp [PortInv]

theorem portInv_scanning : PortInv .scanning a p l b ↔
    LaneInv l ∧ (b.timer ≠ none ↔ b.st = .waiting) ∧ ProbeLaneInv l b := by
  simp [PortInv]

/-- A change of the lane that keeps its role. -/
theorem PortInv.setLane {c : Conn} {l' : Lane} (h : PortInv c a p l b) (hr : l'.role = l.role) (hl : LaneInv l') :
    PortInv c a p l' b := by
  obtain ⟨-, timer, disc, con, idle, probing⟩ := h
  unfold PortInv ProbeLaneInv
  rw [hr]
  exact ⟨hl, timer, disc, con, idle, probing⟩

/-- A probe that is not IDLE belongs to a running scan. -/
theorem PortInv.scanning_of_probe {c : Conn} (h : PortInv c a p l b) (hb : b.st ≠ .idle) : c = .scanning := by
  by_contra hc
  obtain ⟨-, -, -, -, idle, -⟩ := h
  exact hb (idle hc)

/-- A lane with role PROBE belongs to a running scan. -/
theorem PortInv.scanning_of_role {c : Conn} (h : PortInv c a p l b) (hl : l.role = .probe) : c = .scanning := by
  obtain ⟨-, -, disc, con, -, -⟩ := h
  cases c with
  | scanning => rfl
  | disconnected => rw [disc rfl] at hl; cases hl
  | connected =>
    have hr := con rfl
    rw [hl] at hr
    split at hr <;> cases hr

/-- A lane with role ACTIVE is the active lane of a connection. -/
theorem PortInv.connected_of_role {c : Conn} (h : PortInv c a p l b) (hl : l.role = .active) :
    c = .connected ∧ p = a := by
  obtain ⟨-, -, disc, con, -, probing⟩ := h
  cases c with
  | scanning => rcases probing rfl with ⟨hr, -⟩ | ⟨hr, -⟩ <;> rw [hl] at hr <;> cases hr
  | disconnected => rw [disc rfl] at hl; cases hl
  | connected =>
    have hr := con rfl
    rw [hl] at hr
    split at hr
    · exact ⟨rfl, ‹_›⟩
    · cases hr

end

/-! ## Changes of one port -/

/-- From `s` to `t`, nothing that `ConnInv` speaks of changed but at port `p`, which may have become the scan's
winner. -/
def OnlyPort (p : Nat) (s t : State) : Prop :=
  t.params = s.params ∧ t.conn = s.conn ∧ t.active = s.active ∧ t.scan.active = s.scan.active ∧
  (t.scan.winner = s.scan.winner ∨ t.scan.winner = some p) ∧ t.lanes.length = s.lanes.length ∧
  t.probes.length = s.probes.length ∧ (∀ q, q ≠ p → t.lane q = s.lane q) ∧ ∀ q, q ≠ p → t.probe q = s.probe q

section
variable {p : Nat} {s t u : State}

theorem OnlyPort.refl (p : Nat) (s : State) : OnlyPort p s s :=
  ⟨rfl, rfl, rfl, rfl, .inl rfl, rfl, rfl, fun _ _ => rfl, fun _ _ => rfl⟩

theorem OnlyPort.trans (h : OnlyPort p s t) (h' : OnlyPort p t u) : OnlyPort p s u := by
  obtain ⟨pa, co, ac, sc, wi, ll, pl, la, pr⟩ := h
  obtain ⟨pa', co', ac', sc', wi', ll', pl', la', pr'⟩ := h'
  refine ⟨pa'.trans pa, co'.trans co, ac'.trans ac, sc'.trans sc, ?_, ll'.trans ll, pl'.trans pl,
    fun q hq => (la' q hq).trans (la q hq), fun q hq => (pr' q hq).trans (pr q hq)⟩
  rcases wi' with wi' | wi'
  · rwa [wi']
  · exact .inr wi'

theorem OnlyPort.modLane (h : OnlyPort p s t) (f : Lane → Lane) : OnlyPort p s (t.modLane p f) :=
  h.trans ⟨rfl, rfl, rfl, rfl, .inl rfl, by simp, rfl, fun _ hq => State.lane_modLane_ne t f hq, fun _ _ => rfl⟩

theorem OnlyPort.modProbe (h : OnlyPort p s t) (f : Probe → Probe) : OnlyPort p s (t.modProbe p f) :=
  h.trans ⟨rfl, rfl, rfl, rfl, .inl rfl, rfl, by simp, fun _ _ => rfl, fun _ hq => State.probe_modProbe_ne t f hq⟩

theorem stopLane_probes_length (p : Nat) (s : State) : (stopLane p s).probes.length = s.probes.length := by
  rw [stopLane_eq]
  simp only [State.modLane_probes, State.setProbes_probes]
  split <;> simp

theorem OnlyPort.stopLane (h : OnlyPort p s t) : OnlyPort p s (stopLane p t) :=
  h.trans ⟨by simp, by simp, by simp, by simp, .inl (by simp), by simp, stopLane_probes_length p t,
    fun _ hq => stopLane_lane_ne t hq, fun _ hq => stopLane_probe_ne t hq⟩

/-- When only port `p` changed, it is enough to look at port `p`. -/
theorem ConnInv.of_onlyPort (h : ConnInv s) (ho : OnlyPort p s t) (hp : p < s.params.nPorts)
    (hport : PortInv s.conn s.active p (t.lane p) (t.probe p)) : ConnInv t := by
  obtain ⟨⟨hn, hl, hb, scan, act, noAct, win⟩, port⟩ := connInv_iff.1 h
  obtain ⟨pa, co, ac, sc, wi, ll, pl, la, pr⟩ := ho
  refine connInv_iff.2 ⟨⟨?_, ?_, ?_, ?_, ?_, ?_, ?_⟩, fun q hq => ?_⟩
  · rw [pa]; exact hn
  · rw [pa, ll]; exact hl
  · rw [pa, pl]; exact hb
  · rw [sc, co]; exact scan
  · rw [co, ac, pa]; exact act
  · rw [co, ac]; exact noAct
  · rw [co, pa]
    rcases wi with wi | wi <;> rw [wi]
    · exact win
    · intro _; simpa using hp
  · rw [pa] at hq
    rw [co, ac]
    by_cases hqp : q = p
    · rw [hqp]; exact hport
    · rw [la q hqp, pr q hqp]; exact port q hq

/-! ## Reading `ConnInv` at a port -/

theorem ConnInv.port (h : ConnInv s) (hp : p < s.params.nPorts) :
    PortInv s.conn s.active p (s.lane p) (s.probe p) :=
  (connInv_iff.1 h).2 p hp

theorem ConnInv.control (h : ConnInv s) : ControlInv s := (connInv_iff.1 h).1

theorem ConnInv.lanes_length (h : ConnInv s) : s.lanes.length = s.params.nPorts := by
  obtain ⟨-, hl, -⟩ := h.control
  exact hl

theorem ConnInv.probes_length (h : ConnInv s) : s.probes.length = s.params.nPorts := by
  obtain ⟨-, -, hb, -⟩ := h.control
  exact hb

/-- A port whose lane is open is a port. -/
theorem ConnInv.lt_of_role (h : ConnInv s) (hr : (s.lane p).role ≠ .closed) : p < s.params.nPorts := by
  rw [← h.lanes_length]
  by_contra hp
  rw [State.lane, List.getD_eq_default _ _ (by omega)] at hr
  exact hr rfl

/-- A port whose probe is not IDLE is a port. -/
theorem ConnInv.lt_of_probe (h : ConnInv s) (hb : (s.probe p).st ≠ .idle) : p < s.params.nPorts := by
  rw [← h.probes_length]
  by_contra hp
  rw [State.probe, List.getD_eq_default _ _ (by omega)] at hb
  exact hb rfl

/-- A closed lane's RX engine is stopped and its queue empty, and so is what is read where there is no port. -/
theorem ConnInv.closed_lane (h : ConnInv s) (hc : (s.lane p).role = .closed) :
    (s.lane p).rx = .stopped ∧ (s.lane p).txq = [] := by
  by_cases hp : p < s.params.nPorts
  · obtain ⟨hx, hq, -⟩ := (laneInv_of_closed hc).1 (h.port hp).1
    exact ⟨hx, hq⟩
  · rw [← h.lanes_length] at hp
    rw [State.lane, List.getD_eq_default _ _ (by omega)]
    exact ⟨rfl, rfl⟩

/-- A change of an open lane that keeps its role. -/
theorem ConnInv.modLane {f : Lane → Lane} (h : ConnInv s) (ho : (s.lane p).role ≠ .closed)
    (hr : (f (s.lane p)).role = (s.lane p).role) (hl : LaneInv (f (s.lane p))) : ConnInv (s.modLane p f) := by
  have hp := h.lt_of_role ho
  refine h.of_onlyPort ((OnlyPort.refl p s).modLane f) hp ?_
  rw [State.lane_modLane_same _ _ (by rwa [h.lanes_length])]
  exact (h.port hp).setLane hr hl

/-- A change of a probe of a running scan. -/
theorem ConnInv.modProbe {f : Probe → Probe} (h : ConnInv s) (hb : (s.probe p).st ≠ .idle)
    (ht : (f (s.probe p)).timer ≠ none ↔ (f (s.probe p)).st = .waiting)
    (hl : ProbeLaneInv (s.lane p) (s.probe p) → ProbeLaneInv (s.lane p) (f (s.probe p))) : ConnInv (s.modProbe p f) := by
  have hp := h.lt_of_probe hb
  refine h.of_onlyPort ((OnlyPort.refl p s).modProbe f) hp ?_
  have hport := h.port hp
  have hc := hport.scanning_of_probe hb
  rw [hc] at hport ⊢
  obtain ⟨lane, -, probe⟩ := portInv_scanning.1 hport
  rw [State.probe_modProbe_same _ _ (by rwa [h.probes_length])]
  exact portInv_scanning.2 ⟨lane, ht, hl probe⟩

/-! ## Lanes as the operations leave them -/

theorem laneInv_stopped (cut : Nat) (l : Lane) : LaneInv (l.stopped cut) :=
  (laneInv_of_closed rfl).2 ⟨rfl, rfl, rfl, rfl, rfl⟩

theorem laneInv_opened {role : Role} (hr : role ≠ .closed) (baud : Word) (g : Regs) (l : Lane) :
    LaneInv (l.opened role baud g) :=
  (laneInv_of_open hr).2 ⟨by simp, by simp, by simp, by simp, rfl⟩

/-- The RX engine of an open lane may be given any other state but STOPPED, if what it delivers is in order. -/
theorem LaneInv.receive {l l' : Lane} (h : LaneInv l) (ho : l.role ≠ .closed) (hr : l'.role = l.role)
    (hq : l'.txq = l.txq) (hw : l'.wt = l.wt) (hs : l'.rx ≠ .stopped) (hd : l'.rx ≠ .delivering [])
    (he : reqDones l'.rxEvents = 0) : LaneInv l' := by
  obtain ⟨-, wt, ping, -, -⟩ := (laneInv_of_open ho).1 h
  rw [laneInv_of_open (by rwa [hr]), hr, hq, hw]
  exact ⟨hs, wt, ping, hd, he⟩

/-- The queue of an open lane may change, if its write timer follows and a probe lane holds at most its Ping. -/
theorem LaneInv.requeue {l l' : Lane} (h : LaneInv l) (ho : l.role ≠ .closed) (hr : l'.role = l.role)
    (hx : l'.rx = l.rx) (hw : l'.wt = true ↔ l'.txq ≠ []) (hp : l.role = .probe → l'.txq.length ≤ 1) : LaneInv l' := by
  obtain ⟨hs, -, -, hd, he⟩ := (laneInv_of_open ho).1 h
  rw [laneInv_of_open (by rwa [hr]), hr]
  simp only [Lane.rxEvents, hx] at he ⊢
  exact ⟨hs, hw, hp, hd, he⟩

end

end Sys2Proof.Machine

/-! # Every effect keeps the lanes and the connection state in agreement -/

namespace Sys2Proof.Machine

section
variable {p : Nat} {s t : State}

/-! ## Failing a probe, ending the connection -/

/-- A stop changes no probe when its own is not PINGING. -/
theorem stopLane_probes_of_not_pinging (h : (s.probe p).st ≠ .pinging) : (stopLane p s).probes = s.probes := by
  rw [stopLane_eq, State.modLane_probes, State.setProbes_probes, if_neg fun hx => h hx.2]

/-- A stop changes no probe that is not PINGING. -/
theorem stopLane_probe_of_not_pinging {q : Nat} (h : (s.probe q).st ≠ .pinging) :
    (stopLane p s).probe q = s.probe q := by
  by_cases hq : q = p
  · rw [hq] at h ⊢
    rw [State.probe, stopLane_probes_of_not_pinging h, State.probe]
  · exact stopLane_probe_ne s hq

theorem ConnInv.probeFail (h : ConnInv s) (p : Nat) : ConnInv (probeFail p s) := by
  rcases probeFail_cases p s with ⟨hst, e⟩ | ⟨-, e⟩ <;> rw [e]
  · have hb : (s.probe p).st ≠ .idle := by rcases hst with hst | hst | hst <;> simp [hst]
    have hp := h.lt_of_probe hb
    have hc := (h.port hp).scanning_of_probe hb
    have hprobe : (s.modProbe p fun b => { b with st := .fail, timer := none }).probe p =
        { s.probe p with st := .fail, timer := none } :=
      State.probe_modProbe_same _ _ (by rwa [h.probes_length])
    refine h.of_onlyPort ((OnlyPort.refl p s).modProbe _).stopLane hp ?_
    rw [stopLane_lane_same _ (by rwa [State.modProbe_lanes, h.lanes_length]),
      stopLane_probe_of_not_pinging (by simp [hprobe]), hprobe, hc]
    exact portInv_scanning.2 ⟨laneInv_stopped _ _, by simp, .inr ⟨rfl, by simp⟩⟩
  · exact h

/-- Tearing down the connection, whatever the active lane has become in the step before. -/
theorem ConnInv.teardownActive_of_onlyPort (h : ConnInv s) (hc : s.conn = .connected) (ho : OnlyPort s.active s t)
    (hb : t.probe s.active = s.probe s.active) (reason : Reason) : ConnInv (teardownActive reason t) := by
  obtain ⟨⟨hn, hl, hpl, scan, act, -, -⟩, port⟩ := connInv_iff.1 h
  rw [hc] at scan port
  obtain ⟨pa, co, ac, sc, -, ll, pl, la, pr⟩ := ho.stopLane (t := t)
  obtain ⟨-, -, ac0, -, -, ll0, -⟩ := ho
  rw [teardownActive, if_pos (by rw [← stopLane_conn s.active, co, hc]), ac0]
  refine connInv_iff.2 ⟨⟨?_, ?_, ?_, ?_, nofun, fun _ => rfl, nofun⟩, fun q hq => ?_⟩
  · rw [stopLane_params] at pa; simpa [pa] using hn
  · simpa [← ll0, ← pa] using ll0.trans hl
  · rw [State.post_probes, State.setConn_probes, pl]; simpa [← pa] using hpl
  · simpa [← sc] using scan
  · have hq' : q < s.params.nPorts := by rw [stopLane_params] at pa; simpa [pa] using hq
    simp only [State.post_conn, State.setConn_conn, State.post_active, State.setConn_active, State.lane_post,
      State.lane_setConn, State.probe_post, State.probe_setConn]
    obtain ⟨lane, timer, role, idle⟩ := portInv_connected.1 (port q hq')
    by_cases hqa : q = s.active
    · have hidle : (t.probe q).st ≠ .pinging := by rw [hqa, hb, ← hqa, idle]; decide
      rw [stopLane_probe_of_not_pinging hidle, hqa, hb, ← hqa, stopLane_lane_same _ (by rw [ll0, hl]; exact hq')]
      exact portInv_disconnected.2 ⟨laneInv_stopped _ _, timer, rfl, idle⟩
    · rw [la q hqa, pr q hqa]
      exact portInv_disconnected.2 ⟨lane, timer, by rw [role, if_neg hqa], idle⟩

theorem ConnInv.teardownActive (h : ConnInv s) (reason : Reason) : ConnInv (teardownActive reason s) := by
  by_cases hc : s.conn = .connected
  · exact h.teardownActive_of_onlyPort hc (OnlyPort.refl _ s) rfl reason
  · rw [Machine.teardownActive, if_neg hc]; exact h

/-- After a teardown outside a scan there is no connection and no scan. -/
theorem teardownActive_conn (reason : Reason) (hc : s.conn ≠ .scanning) :
    (Machine.teardownActive reason s).conn = .disconnected := by
  rcases teardownActive_cases reason s with ⟨-, e⟩ | ⟨hn, e⟩ <;> rw [e]
  · rfl
  · cases h : s.conn with
    | disconnected => rfl
    | scanning => exact absurd h hc
    | connected => exact absurd h hn

/-! ## A new connection, a new scan -/

/-- In Disconnected, a lane that opens as ACTIVE becomes the connection. -/
theorem ConnInv.becomeConnected {f : Lane → Lane} (h : ConnInv s) (hc : s.conn = .disconnected)
    (hp : p < s.params.nPorts) (hr : (f (s.lane p)).role = .active) (hl : LaneInv (f (s.lane p))) :
    ConnInv (becomeConnected p (s.modLane p f)) := by
  obtain ⟨⟨hn, hll, hpl, scan, -, -, -⟩, port⟩ := connInv_iff.1 h
  rw [hc] at scan port
  rw [becomeConnected_eq]
  refine connInv_iff.2 ⟨⟨hn, ?_, hpl, by simpa using scan, fun _ => hp, fun hx => absurd rfl hx, nofun⟩,
    fun q hq => ?_⟩
  · simpa using hll
  · obtain ⟨lane, timer, role, idle⟩ := portInv_disconnected.1 (port q hq)
    show PortInv .connected p q ((s.modLane p f).lane q) (s.probe q)
    by_cases hqp : q = p
    · subst hqp
      rw [State.lane_modLane_same _ _ (by rwa [hll])]
      exact portInv_connected.2 ⟨hl, timer, by rw [hr, if_pos rfl], idle⟩
    · rw [State.lane_modLane_ne _ _ hqp]
      exact portInv_connected.2 ⟨lane, timer, by rw [role, if_neg hqp], idle⟩

theorem ConnInv.startScan (h : ConnInv s) (hc : s.conn = .disconnected) : ConnInv (startScan s) := by
  obtain ⟨⟨hn, hll, hpl, -, -, noAct, -⟩, port⟩ := connInv_iff.1 h
  rw [hc] at noAct port
  refine connInv_iff.2 ⟨⟨hn, hll, ?_, by simp [Machine.startScan], nofun, fun _ => noAct nofun, fun _ => rfl⟩,
    fun q hq => ?_⟩
  · simpa [Machine.startScan] using hpl
  · obtain ⟨lane, timer, role, idle⟩ := portInv_disconnected.1 (port q hq)
    have hlt : q < s.probes.length := by rwa [hpl]
    have hprobe : (Machine.startScan s).probe q =
        { s.probe q with st := if eligible s q then .opening else .idle } := by
      simp [Machine.startScan, State.probe, hlt]
    rw [hprobe]
    have hno : (s.probe q).timer = none := by simpa [idle] using timer
    refine portInv_scanning.2 ⟨lane, ?_, .inr ⟨role, ?_⟩⟩ <;> by_cases he : eligible s q <;> simp [he, hno]

/-! ## Sending -/

theorem Lane.queued_txq (i : TxItem) (now : Nat) (l : Lane) : (l.queued i now).txq = l.txq ++ [i] := by
  unfold Lane.queued; split <;> simp_all

theorem Lane.queued_role (i : TxItem) (now : Nat) (l : Lane) : (l.queued i now).role = l.role := by
  unfold Lane.queued; split <;> rfl

/-- A frame may join the queue of an open lane, if a probe lane's queue is empty before. -/
theorem LaneInv.queued {l : Lane} (h : LaneInv l) (ho : l.role ≠ .closed) (hp : l.role = .probe → l.txq = [])
    (i : TxItem) (now : Nat) : LaneInv (l.queued i now) := by
  obtain ⟨-, wt, -, -, -⟩ := (laneInv_of_open ho).1 h
  refine h.requeue ho (Lane.queued_role i now l) ?_ ?_ fun hr => ?_
  · unfold Lane.queued; split <;> rfl
  · unfold Lane.queued
    split
    · simp
    · rename_i hq; simp [wt, hq]
  · simp [Lane.queued_txq, hp hr]

/-- The active lane is open only in Connected, and is no probe lane. -/
theorem ConnInv.active_role (h : ConnInv s) (ho : (s.lane s.active).role ≠ .closed) :
    s.conn = .connected ∧ (s.lane s.active).role = .active := by
  have hp := h.lt_of_role ho
  obtain ⟨⟨hn, -, -, -, -, noAct, -⟩, port⟩ := connInv_iff.1 h
  have hc : s.conn = .connected := by
    by_contra hc
    rw [noAct hc, noPort] at hp
    omega
  have hport := port _ hp
  rw [hc] at hport
  obtain ⟨-, -, role, -⟩ := portInv_connected.1 hport
  exact ⟨hc, by simpa using role⟩

theorem ConnInv.sendFrame_active (h : ConnInv s) (c : Byte) (payload : List Byte) :
    ConnInv (sendFrame s.active c payload .request s).1 := by
  rcases sendFrame_cases s.active c payload .request s with ⟨-, e⟩ | ⟨-, ho, e⟩ <;> rw [e]
  · exact h
  · have hr := (h.active_role ho).2
    have hl := (h.port (h.lt_of_role ho)).1.queued ho (by simp [hr]) ⟨frameBytes c payload, .request⟩ s.now
    exact h.modLane ho (Lane.queued_role _ _ _) hl

theorem ConnInv.protocolSend (h : ConnInv s) (c : Byte) (payload : List Byte) : ConnInv (protocolSend c payload s) := by
  have hs := ConnInv.sendFrame_active (s := s.modReq fun q => { q with phase := .send }) h c payload
  unfold Machine.protocolSend
  split <;> rename_i u heq <;> rw [State.modReq_active, heq] at hs <;> exact hs

/-! ## The requests -/

/-- R272: ManualConnect is refused in Scanning; else it ends any connection, and the port opens or does not. -/
theorem manualConnect_cases (op : Byte) (p : Nat) (baud : Word) (s : State) :
    (s.conn = .scanning ∧ manualConnect op p baud s = reqDone op .badState s) ∨
    (s.conn ≠ .scanning ∧ manualConnect op p baud s =
      reqDone op .openFail ((teardownActive .requested s).post (.disconnected .openFail))) ∨
    (s.conn ≠ .scanning ∧ manualConnect op p baud s =
      reqDone op .ok (becomeConnected p ((teardownActive .requested s).modLane p
        (Lane.opened .active baud (teardownActive .requested s).regs)))) := by
  rcases openLane_cases p .active baud (Machine.teardownActive .requested s) with ⟨-, e⟩ | ⟨-, -, e⟩ <;>
    cases hc : s.conn <;> simp [manualConnect, hc, e]

/-- R302: Execute answers at once, or runs the request's operation, whose operands are well formed and which has the
connection it needs. -/
theorem execute_cases (d : Descriptor) (s : State) :
    (∃ r, execute d s = reqDone d.opcode r s) ∨
    ∃ k, wellFormedReq s.params.nPorts k d.ops = true ∧ (k.needsConnection = true → s.conn = .connected) ∧
      execute d s = runRequest k d.opcode d.ops s := by
  unfold execute
  cases he : requestError d s with
  | some r => exact .inl ⟨r, rfl⟩
  | none =>
    unfold requestError at he
    cases hk : reqKind d.opcode with
    | none => simp [hk] at he
    | some k =>
      simp only [hk] at he
      split_ifs at he with hw hcap hn
      refine .inr ⟨k, by simpa using hw, fun h => ?_, rfl⟩
      by_contra hc
      exact hn ⟨h, hc⟩

theorem ConnInv.reqDone (h : ConnInv s) (op : Byte) (r : Result) : ConnInv (reqDone op r s) := h

theorem teardownActive_params (reason : Reason) (s : State) :
    (Machine.teardownActive reason s).params = s.params := by
  rcases teardownActive_cases reason s with ⟨-, e⟩ | ⟨-, e⟩ <;> rw [e]
  simp

theorem ConnInv.manualConnect (h : ConnInv s) (op : Byte) (hp : p < s.params.nPorts) (baud : Word) :
    ConnInv (manualConnect op p baud s) := by
  have ht := h.teardownActive .requested
  rcases manualConnect_cases op p baud s with ⟨-, e⟩ | ⟨-, e⟩ | ⟨hc, e⟩ <;> rw [e]
  · exact h.reqDone _ _
  · exact ConnInv.reqDone (s := State.post _ _) ht _ _
  · rw [← teardownActive_params .requested s] at hp
    exact (ht.becomeConnected (teardownActive_conn _ hc) hp rfl (laneInv_opened (by decide) _ _ _)).reqDone _ _

theorem ConnInv.disconnect (h : ConnInv s) (op : Byte) : ConnInv (disconnect op s) := by
  unfold Machine.disconnect
  split
  · exact h.teardownActive .requested
  · exact h
  · exact h

theorem ConnInv.reconnect (h : ConnInv s) (op : Byte) : ConnInv (reconnect op s) := by
  unfold Machine.reconnect
  split
  · rename_i hc
    exact (h.teardownActive .reconnect).startScan (teardownActive_conn _ (by simp [hc]))
  · exact h.startScan ‹_›
  · exact h

theorem ConnInv.scanRequest (h : ConnInv s) (op : Byte) : ConnInv (scanRequest op s) := by
  unfold Machine.scanRequest
  split
  · exact h.startScan ‹_›
  · exact h

theorem ConnInv.execute (h : ConnInv s) (d : Descriptor) : ConnInv (execute d s) := by
  rcases execute_cases d s with ⟨r, e⟩ | ⟨k, hw, -, e⟩ <;> rw [e]
  · exact h
  · cases k with
    | manualConnect => exact h.manualConnect _ (by simp [wellFormedReq] at hw; exact hw.2) _
    | reconnect => exact h.reconnect _
    | scan => exact h.scanRequest _
    | disconnect => exact h.disconnect _
    | getConfig | getStatus | setStimulation | setPhases | setEnable => exact h.protocolSend _ _

/-! ## The receive path -/

theorem ConnInv.arrive (h : ConnInv s) (p : Nat) (b : Byte) : ConnInv (arrive p b s) := by
  unfold Machine.arrive
  split
  · exact h
  · rename_i ho
    split
    · exact h
    · have hl := (h.port (h.lt_of_role ho)).1
      obtain ⟨hs, wt, ping, hd, he⟩ := (laneInv_of_open ho).1 hl
      exact h.modLane ho rfl (hl.receive ho rfl rfl rfl hs hd he)

/-- Parsing a chunk changes lane `p`'s staging and ring buffer and the counters, and nothing else. -/
theorem rxParsed_fst (p k : Nat) (s : State) : ∃ b d,
    (rxParsed p k s).1 = (s.modLane p (fun l => { l with stg := l.stg.drop k, rb := b })).setDiag d := by
  have hwrite : ∀ u : State, ∃ b d, Machine.rbWrite p ((s.lane p).stg.take k) u = (u.setRb p b).setDiag d :=
    fun u => ⟨_, _, rbWrite_eq _ _ _⟩
  have hparse : ∀ u : State, ∃ b d, (Machine.parseAll p u).1 = (u.setRb p b).setDiag d := fun _ => ⟨_, _, rfl⟩
  obtain ⟨b₁, d₁, e₁⟩ := hwrite (s.modLane p fun l => { l with stg := l.stg.drop k })
  obtain ⟨b₂, d₂, e₂⟩ := hparse (((s.modLane p fun l => { l with stg := l.stg.drop k }).setRb p b₁).setDiag d₁)
  refine ⟨b₂, d₂, ?_⟩
  rw [rxParsed, e₁, e₂]
  simp only [State.setRb, State.setDiag, State.modLane, List.modify_modify_eq]
  rfl

/-- No REQ_DONE is among the events of a frame (R344). -/
theorem reqDones_inbound (f : Frame) (s : State) : reqDones (inbound f s).2 = 0 := by
  have hc : reqDones (decodeConfig f s).2 = 0 := by unfold decodeConfig; split <;> rfl
  have hs : reqDones (decodeStatus f s).2 = 0 := by unfold decodeStatus; split <;> rfl
  have he : reqDones (decodeError f s).2 = 0 := by unfold decodeError; split <;> rfl
  have ht : reqDones (inboundTyped f s).2 = 0 := by
    unfold inboundTyped
    split_ifs
    · exact hc
    · exact hs
    · exact he
    all_goals rfl
  simpa [reqDones, inbound] using ht

theorem reqDones_append (xs ys : List Event) : reqDones (xs ++ ys) = reqDones xs + reqDones ys :=
  List.countP_append

theorem ConnInv.arbitrate (h : ConnInv s) (hp : p < s.params.nPorts) : ConnInv (arbitrate p s) := by
  unfold Machine.arbitrate
  split
  · exact h.of_onlyPort ⟨rfl, rfl, rfl, rfl, .inr rfl, rfl, rfl, fun _ _ => rfl, fun _ _ => rfl⟩ hp (h.port hp)
  · split
    · exact h.of_onlyPort ⟨rfl, rfl, rfl, rfl, .inr rfl, rfl, rfl, fun _ _ => rfl, fun _ _ => rfl⟩ hp (h.port hp)
    · exact h

theorem probeMatches_st {f : Frame} (hm : probeMatches p f s = true) :
    (s.probe p).st = .pinging ∨ (s.probe p).st = .waiting := by
  simp only [probeMatches, Bool.and_eq_true, Bool.or_eq_true, decide_eq_true_eq] at hm
  exact hm.1.1

theorem ConnInv.probeFrame (h : ConnInv s) (p : Nat) (f : Frame) : ConnInv (probeFrame p f s) := by
  unfold Machine.probeFrame
  split
  · rename_i hm
    have hst := probeMatches_st hm
    have hb : (s.probe p).st ≠ .idle := by rcases hst with hst | hst <;> simp [hst]
    have hok : ConnInv (s.modProbe p fun b => { b with st := .ok, timer := none }) := by
      refine h.modProbe hb (by simp) fun hl => ?_
      rcases hl with ⟨hr, -⟩ | ⟨-, hn⟩
      · exact .inl ⟨hr, by simp⟩
      · rcases hst with hst | hst <;> simp [hst] at hn
    exact ConnInv.arbitrate (s := State.modRegs _ _) hok (h.lt_of_probe hb)
  · exact h

/-- What routing one or more frames of lane `p` keeps: the invariant and every lane; and no REQ_DONE comes of it. -/
theorem ConnInv.routeFrames (p : Nat) (fs : List Frame) : ∀ {s : State}, ConnInv s →
    ConnInv (routeFrames p fs s).1 ∧ (routeFrames p fs s).1.lanes = s.lanes ∧
    reqDones (routeFrames p fs s).2 = 0 := by
  induction fs with
  | nil => exact fun h => ⟨h, rfl, rfl⟩
  | cons f fs ih =>
    intro s h
    have h1 : ConnInv (routeFrame p f s).1 ∧ (routeFrame p f s).1.lanes = s.lanes ∧
        reqDones (routeFrame p f s).2 = 0 := by
      unfold routeFrame
      split
      · have hd := reqDones_inbound f s
        obtain ⟨_, _, _, _, _, e⟩ := inbound_changes f s
        rw [e] at hd ⊢
        exact ⟨h, rfl, hd⟩
      · obtain ⟨_, _, _, e⟩ := probeFrame_changes p f s
        exact ⟨h.probeFrame p f, by rw [e], rfl⟩
      · exact ⟨h, rfl, rfl⟩
    obtain ⟨hi, hl, hd⟩ := h1
    obtain ⟨hi', hl', hd'⟩ := ih hi
    exact ⟨hi', hl'.trans hl, by rw [Machine.routeFrames, reqDones_append, hd, hd']⟩

theorem rxReady_open (h : ConnInv s) (hr : rxReady p s = true) : (s.lane p).role ≠ .closed := by
  intro hc
  have hx : (s.lane p).rx = .idle := by simp [rxReady] at hr; exact hr.1
  simp [(h.closed_lane hc).1] at hx

theorem ConnInv.rxChunk (h : ConnInv s) (hr : rxReady p s = true) (k : Nat) : ConnInv (rxChunk p k s) := by
  have ho := rxReady_open h hr
  have hp := h.lt_of_role ho
  obtain ⟨b, d, e⟩ := rxParsed_fst p k s
  have hlane : (rxParsed p k s).1.lane p = { s.lane p with stg := (s.lane p).stg.drop k, rb := b } := by
    rw [e, State.lane_setDiag, State.lane_modLane_same _ _ (by rwa [h.lanes_length])]
  obtain ⟨hs, -, -, hd, he⟩ := (laneInv_of_open ho).1 (h.port hp).1
  have hparsed : ConnInv (rxParsed p k s).1 := by
    rw [e]
    exact h.modLane ho rfl ((h.port hp).1.receive ho rfl rfl rfl hs hd he)
  obtain ⟨hroute, hlanes, hdone⟩ := ConnInv.routeFrames p (rxParsed p k s).2 hparsed
  rw [rxChunk_eq]
  split
  · exact hroute
  · rename_i hne
    have ho' : ((Machine.routeFrames p (rxParsed p k s).2 (rxParsed p k s).1).1.lane p).role ≠ .closed := by
      rw [State.lane, hlanes, ← State.lane, hlane]
      exact ho
    refine hroute.modLane ho' rfl ((hroute.port (hroute.lt_of_role ho')).1.receive ho' rfl rfl rfl nofun ?_ hdone)
    simpa using hne

theorem ConnInv.rxStep (h : ConnInv s) (hr : rxReady p s = true) : ConnInv (rxStep p s) := by
  rw [Machine.rxStep]
  exact h.rxChunk hr _

theorem ConnInv.rxLine (h : ConnInv s) (p : Nat) (bytes : List Byte) : ConnInv (rxLine p bytes s) := by
  have harr : ConnInv (bytes.foldl (fun t b => Machine.arrive p b t) s) :=
    List.foldlRecOn bytes _ h fun _ ht b _ => ht.arrive p b
  simp only [Machine.rxLine]
  split
  · exact harr.rxChunk ‹_› _
  · exact harr

/-! ## The transmit path -/

/-- `notify owner OK`: a request's send is OK, a PINGING probe waits from now on; nothing else changes. -/
theorem notifyOk_eq (p : Nat) (o : Owner) (s : State) :
    notifyOk p o s = (s.modReq (fun q => if o = .request then { q with send := .ok } else q)).setProbes
      (if o = .probe ∧ (s.probe p).st = .pinging
       then s.probes.modify p (fun b => { b with st := .waiting, timer := some s.now }) else s.probes) := by
  cases o
  · rfl
  · by_cases h : (s.probe p).st = .pinging <;> simp [notifyOk, h, State.modProbe, State.modReq, State.setProbes]

/-- TxDone is one change of the lane and one notice to the frame's owner. -/
theorem txDone_eq (p : Nat) (o : Owner) (s : State) :
    txDone p o s = notifyOk p o (s.modLane p fun l => l.headSent.startNext s.now) := by
  simp only [Machine.txDone, notifyOk_eq, State.setProbes, State.modReq, State.modLane, State.probe]
  rw [List.modify_modify_eq]
  rfl

theorem notifyOk_probe (p : Nat) (s : State) : notifyOk p .probe s =
    if (s.probe p).st = .pinging then s.modProbe p (fun b => { b with st := .waiting, timer := some s.now }) else s :=
  rfl

theorem notifyFail_probe (p : Nat) (s : State) :
    notifyFail p .probe s = if (s.probe p).st = .pinging then Machine.probeFail p s else s := rfl

/-- Without a PINGING probe, `notify owner FAIL` is a matter of the request engine alone. -/
theorem notifyFail_of_not_pinging (h : (s.probe p).st ≠ .pinging) (o : Owner) :
    notifyFail p o s = s.modReq (fun r => if o = .request then { r with send := .fail } else r) := by
  cases o with
  | request => rfl
  | probe => rw [notifyFail_probe, if_neg h]; rfl

theorem ConnInv.notifyOk (h : ConnInv s) (p : Nat) (o : Owner) : ConnInv (notifyOk p o s) := by
  cases o with
  | request => exact h
  | probe =>
    rw [notifyOk_probe]
    split
    · rename_i hst
      refine h.modProbe (by simp [hst]) (by simp) fun hl => ?_
      rcases hl with ⟨hr, -⟩ | ⟨-, hn⟩
      · exact .inl ⟨hr, by simp⟩
      · simp [hst] at hn
    · exact h

theorem ConnInv.notifyFail (h : ConnInv s) (p : Nat) (o : Owner) : ConnInv (notifyFail p o s) := by
  cases o with
  | request => exact h
  | probe =>
    rw [notifyFail_probe]
    split
    · exact h.probeFail p
    · exact h

/-- A lane with a frame queued is open. -/
theorem ConnInv.open_of_queue (h : ConnInv s) {i : TxItem} {q : List TxItem} (hq : (s.lane p).txq = i :: q) :
    (s.lane p).role ≠ .closed := by
  intro hc
  simp [(h.closed_lane hc).2] at hq

/-- R228: the lane when its head frame `i` has left whole, and the rest of the queue moves up. -/
theorem Lane.headSent_startNext {l : Lane} {i : TxItem} {q : List TxItem} (hq : l.txq = i :: q) (now : Nat) :
    l.headSent.startNext now = { l with
      txd := l.txd ++ i.bytes, txq := q, txStart := if q = [] then l.txStart else now, wt := decide (q ≠ []) } := by
  cases q <;> simp [Lane.headSent, Lane.startNext, hq]

theorem ConnInv.txDone (h : ConnInv s) {i : TxItem} {q : List TxItem} (hq : (s.lane p).txq = i :: q) (o : Owner) :
    ConnInv (txDone p o s) := by
  have ho := h.open_of_queue hq
  have hl := (h.port (h.lt_of_role ho)).1
  obtain ⟨-, -, ping, -, -⟩ := (laneInv_of_open ho).1 hl
  rw [hq] at ping
  rw [txDone_eq]
  refine ConnInv.notifyOk (h.modLane ho ?_ ?_) p o <;> rw [Lane.headSent_startNext hq]
  refine hl.requeue ho rfl rfl (by simp) fun hr => ?_
  exact Nat.le_trans (Nat.le_succ _) (ping hr)

theorem ConnInv.writeTimeout (h : ConnInv s) {i : TxItem} {q : List TxItem} (hq : (s.lane p).txq = i :: q)
    (o : Owner) : ConnInv (writeTimeout p o s) := by
  have ho := h.open_of_queue hq
  have hp := h.lt_of_role ho
  have hport := h.port hp
  simp only [Machine.writeTimeout]
  by_cases hr : (s.lane p).role = .active
  · -- The connection ends: its lane is stopped, whatever its queue has become.
    obtain ⟨hc, rfl⟩ := hport.connected_of_role hr
    have hidle : (s.probe s.active).st ≠ .pinging := by
      obtain ⟨-, -, -, -, idle, -⟩ := hport
      simp [idle (by simp [hc] : s.conn ≠ .scanning)]
    have hlane := (OnlyPort.refl s.active s).modLane (Lane.headFailed (s.pin s.active).cut)
    rw [notifyFail_of_not_pinging (s := s.modLane _ _) hidle, if_pos ?_]
    · exact h.teardownActive_of_onlyPort (t := State.modReq (s.modLane _ _) _) hc hlane rfl _
    · rwa [State.lane_modReq, State.lane_modLane_same _ _ (by rwa [h.lanes_length])]
  · -- A probe lane's only frame leaves an empty queue.
    have hpr : (s.lane p).role = .probe := by
      cases hx : (s.lane p).role <;> simp_all
    obtain ⟨-, -, ping, -, -⟩ := (laneInv_of_open ho).1 hport.1
    have hnil : ((s.lane p).headFailed (s.pin p).cut).txq = [] := by
      have := ping hpr
      rw [hq] at this
      simp at this
      simp [hq, this]
    have hf : ConnInv (s.modLane p (Lane.headFailed (s.pin p).cut)) :=
      h.modLane ho rfl (hport.1.requeue ho rfl rfl (by rw [hnil]; simp) fun _ => by rw [hnil]; simp)
    split
    · exact (hf.notifyFail p o).teardownActive _
    · exact hf.notifyFail p o

theorem ConnInv.portFault (h : ConnInv s) (p : Nat) : ConnInv (portFault p s) := by
  unfold Machine.portFault
  split
  · exact h.teardownActive _
  · exact h.probeFail p
  · exact h

/-! ## The scan -/

/-- ProbeOpen: the port does not open and the probe fails; or it opens, the Ping with the drawn nonce is its lane's
first frame (if it is handed over), and the probe is PINGING. -/
theorem probeOpen_cases (p : Nat) (s : State) :
    probeOpen p s = s.modProbe p (fun b => { b with st := .fail }) ∨
    ∃ u, (u = s.modLane p (Lane.opened .probe s.scan.baud s.regs) ∨
        u = s.modLane p (fun l => (l.opened .probe s.scan.baud s.regs).queued
          ⟨frameBytes s.params.code.ping [(s.pin p).nonce], .probe⟩ s.now)) ∧
      probeOpen p s = u.modProbe p (fun b => { b with nonce := (s.pin p).nonce, st := .pinging }) := by
  rcases openLane_cases p .probe s.scan.baud s with ⟨-, e⟩ | ⟨-, -, e⟩
  · exact .inl (by simp only [Machine.probeOpen, e])
  · refine .inr ?_
    rcases sendFrame_cases p s.params.code.ping [(s.pin p).nonce] .probe
      ((s.modLane p (Lane.opened .probe s.scan.baud s.regs)).modProbe p fun b => { b with nonce := (s.pin p).nonce })
      with ⟨-, e'⟩ | ⟨-, -, e'⟩
    · refine ⟨_, .inl rfl, ?_⟩
      simp only [Machine.probeOpen, e, State.pin_modLane, State.modLane_params, State.modProbe_params, e']
      simp only [State.modProbe, State.modLane_probes, List.modify_modify_eq]
      rfl
    · refine ⟨_, .inr rfl, ?_⟩
      simp only [Machine.probeOpen, e, State.pin_modLane, State.modLane_params, State.modProbe_params, e']
      simp only [transmit, State.modProbe, State.modLane, List.modify_modify_eq]
      rfl

theorem ConnInv.probeOpen (h : ConnInv s) (hst : (s.probe p).st = .opening) : ConnInv (probeOpen p s) := by
  have hb : (s.probe p).st ≠ .idle := by simp [hst]
  have hp := h.lt_of_probe hb
  have hport := h.port hp
  have hc := hport.scanning_of_probe hb
  rw [hc] at hport
  obtain ⟨-, timer, lane⟩ := portInv_scanning.1 hport
  have hno : (s.probe p).timer = none := by simpa [hst] using timer
  have hlt : p < s.lanes.length := by rwa [h.lanes_length]
  have hltp : p < s.probes.length := by rwa [h.probes_length]
  rcases probeOpen_cases p s with e | ⟨u, hu, e⟩ <;> rw [e]
  · refine h.modProbe hb (by simp [hno]) fun hl => ?_
    rcases hl with ⟨-, hn⟩ | ⟨hr, -⟩
    · simp [hst] at hn
    · exact .inr ⟨hr, by simp⟩
  · have hopen := laneInv_opened (role := .probe) (by decide) s.scan.baud s.regs (s.lane p)
    have hlane : LaneInv (u.lane p) ∧ (u.lane p).role = .probe ∧ u.probe p = s.probe p ∧
        u.probes.length = s.probes.length ∧ OnlyPort p s u := by
      rcases hu with rfl | rfl <;> rw [State.lane_modLane_same _ _ hlt]
      · exact ⟨hopen, rfl, rfl, rfl, (OnlyPort.refl p s).modLane _⟩
      · exact ⟨hopen.queued (by simp) (fun _ => rfl) _ _, Lane.queued_role _ _ _, rfl, rfl,
          (OnlyPort.refl p s).modLane _⟩
    obtain ⟨hl, hr, hpr, hlen, ho⟩ := hlane
    refine h.of_onlyPort (ho.modProbe _) hp ?_
    rw [State.lane_modProbe, State.probe_modProbe_same _ _ (by rwa [hlen]), hpr, hc]
    exact portInv_scanning.2 ⟨hl, by simp [hno], .inl ⟨hr, by simp⟩⟩

/-- Stopping the losers stops exactly their lanes; with no probe PINGING it changes no probe (R269). -/
theorem stopLosers_spec (h : ∀ q, (s.probe q).st ≠ .pinging) :
    (stopLosers s).params = s.params ∧ (stopLosers s).conn = s.conn ∧ (stopLosers s).active = s.active ∧
    (stopLosers s).scan = s.scan ∧ (stopLosers s).pins = s.pins ∧ (stopLosers s).lanes.length = s.lanes.length ∧
    (stopLosers s).probes = s.probes ∧
    ∀ q, (stopLosers s).lane q =
      if q < s.params.nPorts ∧ (s.lane q).role = .probe ∧ s.scan.winner ≠ some q
      then (s.lane q).stopped (s.pin q).cut else s.lane q := by
  unfold stopLosers
  induction s.params.nPorts with
  | zero => simp
  | succ n ih =>
    rw [List.range_succ, List.foldl_append, List.foldl_cons, List.foldl_nil]
    generalize List.foldl _ s (List.range n) = t at ih ⊢
    obtain ⟨pa, co, ac, sc, pi, ll, pr, la⟩ := ih
    have hn : t.lane n = s.lane n := by rw [la, if_neg fun hx => Nat.lt_irrefl n hx.1]
    rw [hn]
    by_cases hlose : (s.lane n).role = .probe ∧ s.scan.winner ≠ some n
    · have hlt : n < t.lanes.length := by
        rw [ll]
        by_contra hx
        rw [State.lane, List.getD_eq_default _ _ (by omega)] at hlose
        exact absurd hlose.1 (by decide)
      have hping : (t.probe n).st ≠ .pinging := by rw [State.probe, pr]; exact h n
      rw [if_pos hlose]
      refine ⟨by simp [pa], by simp [co], by simp [ac], by simp [sc], by simp [pi], by simp [ll],
        (stopLane_probes_of_not_pinging hping).trans pr, fun q => ?_⟩
      by_cases hq : q = n
      · rw [hq, stopLane_lane_same _ hlt, hn, if_pos ⟨Nat.lt_succ_self n, hlose⟩, State.pin, pi, State.pin]
      · rw [stopLane_lane_ne _ hq, la]
        simp only [(by omega : q < n + 1 ↔ q < n)]
    · rw [if_neg hlose]
      refine ⟨pa, co, ac, sc, pi, ll, pr, fun q => ?_⟩
      by_cases hq : q = n
      · rw [hq, hn, if_neg fun hx => hlose hx.2]
      · rw [la]
        simp only [(by omega : q < n + 1 ↔ q < n)]

theorem scanEndReady_iff : scanEndReady s = true ↔
    s.scan.active = true ∧ ∀ b ∈ s.probes, b.st = .idle ∨ b.st = .ok ∨ b.st = .fail := by
  simp [scanEndReady, or_assoc]

/-- The scan controller as ScanEnd leaves it before it decides: the losers stopped, the probes IDLE. -/
def scanClosed (s : State) : State :=
  ((stopLosers s).modScan (fun c => { c with active := false })).setProbes
    ((stopLosers s).probes.map (fun b => { b with st := .idle }))

/-- R269: ScanEnd decides for the winner, if its lane still stands. -/
theorem scanEnd_eq (s : State) : scanEnd s =
    match (stopLosers s).scan.winner with
    | none => scanFails .noDevice (scanClosed s)
    | some w => if ((scanClosed s).lane w).role = .probe then scanWins w (scanClosed s)
      else scanFails .ioFail (scanClosed s) := rfl

/-- The end of a scan leaves every probe IDLE with no timer, and no lane open but the winner's. -/
theorem scanClosed_spec (h : ConnInv s) (hr : scanEndReady s = true) :
    (scanClosed s).params = s.params ∧ (scanClosed s).active = noPort ∧ (scanClosed s).scan.active = false ∧
    (stopLosers s).scan.winner = s.scan.winner ∧
    (scanClosed s).lanes.length = s.params.nPorts ∧ (scanClosed s).probes.length = s.params.nPorts ∧
    ∀ q < s.params.nPorts, LaneInv ((scanClosed s).lane q) ∧
      ((scanClosed s).probe q).timer = none ∧ ((scanClosed s).probe q).st = .idle ∧
      (((scanClosed s).lane q).role = .closed ∨ ((scanClosed s).lane q).role = .probe ∧ s.scan.winner = some q) := by
  obtain ⟨hactive, hended⟩ := scanEndReady_iff.1 hr
  obtain ⟨⟨-, hll, hpl, scan, -, noAct, -⟩, port⟩ := connInv_iff.1 h
  have hc := scan.1 hactive
  rw [hc] at port
  have hst : ∀ q < s.params.nPorts, (s.probe q).st = .idle ∨ (s.probe q).st = .ok ∨ (s.probe q).st = .fail := by
    intro q hq
    rw [← hpl] at hq
    rw [State.probe, List.getD_eq_getElem _ _ hq]
    exact hended _ (List.getElem_mem hq)
  have hping : ∀ q, (s.probe q).st ≠ .pinging := by
    intro q hx
    rcases hst q (h.lt_of_probe (by simp [hx])) with hn | hn | hn <;> simp [hx] at hn
  obtain ⟨pa, -, ac, sc, -, ll, pr, la⟩ := stopLosers_spec hping
  refine ⟨pa, ac.trans (noAct (by simp [hc])), rfl, by rw [sc], ll.trans hll, ?_, fun q hq => ?_⟩
  · rw [scanClosed, State.setProbes_probes, List.length_map, pr, hpl]
  · obtain ⟨lane, timer, probe⟩ := portInv_scanning.1 (port q hq)
    have hlane : (scanClosed s).lane q = (stopLosers s).lane q := rfl
    have hprobe : (scanClosed s).probe q = { s.probe q with st := .idle } := by
      have hlt : q < s.probes.length := by rwa [hpl]
      simp [scanClosed, State.probe, pr, hlt]
    rw [hlane, la q, hprobe]
    refine ⟨?_, ?_, rfl, ?_⟩
    · split
      · exact laneInv_stopped _ _
      · exact lane
    · rcases hst q hq with hx | hx | hx <;> simpa [hx] using timer
    · split
      · exact .inl rfl
      · rename_i hkeep
        rcases probe with ⟨hrole, -⟩ | ⟨hrole, -⟩
        · exact .inr ⟨hrole, by_contra fun hw => hkeep ⟨hq, hrole, hw⟩⟩
        · exact .inl hrole

theorem ConnInv.scanFails (h : ConnInv s) (hr : scanEndReady s = true) (reason : Reason)
    (hno : ∀ w, s.scan.winner = some w → ((scanClosed s).lane w).role ≠ .probe) :
    ConnInv (scanFails reason (scanClosed s)) := by
  obtain ⟨pa, ac, sc, -, ll, pl, port⟩ := scanClosed_spec h hr
  obtain ⟨hn, -⟩ := h.control
  rw [← pa] at hn ll pl port
  refine connInv_iff.2 ⟨⟨hn, ll, pl, by simp [Machine.scanFails, sc], nofun, fun _ => ac, nofun⟩, fun q hq => ?_⟩
  obtain ⟨lane, timer, idle, role⟩ := port q hq
  refine portInv_disconnected.2 ⟨lane, ?_, ?_, idle⟩
  · show ((scanClosed s).probe q).timer ≠ none ↔ ((scanClosed s).probe q).st = .waiting
    simp [timer, idle]
  · rcases role with role | ⟨role, hw⟩
    · exact role
    · exact absurd role (hno q hw)

theorem ConnInv.scanWins (h : ConnInv s) (hr : scanEndReady s = true) {w : Nat} (hw : s.scan.winner = some w)
    (hstand : ((scanClosed s).lane w).role = .probe) : ConnInv (scanWins w (scanClosed s)) := by
  obtain ⟨pa, ac, sc, -, ll, pl, port⟩ := scanClosed_spec h hr
  obtain ⟨hn, -⟩ := h.control
  rw [← pa] at hn ll pl port
  have hlt : w < (scanClosed s).lanes.length := by
    by_contra hx
    rw [State.lane, List.getD_eq_default _ _ (by omega)] at hstand
    cases hstand
  refine connInv_iff.2 ⟨⟨hn, ?_, pl, by simp [Machine.scanWins, becomeConnected_eq, sc], fun _ => ?_,
    fun hx => absurd rfl hx, nofun⟩, fun q hq => ?_⟩
  · simpa [Machine.scanWins, becomeConnected_eq] using ll
  · simpa [Machine.scanWins, becomeConnected_eq, ← ll] using hlt
  · obtain ⟨lane, timer, idle, role⟩ := port q hq
    show PortInv .connected w q (((scanClosed s).modLane w fun l => { l with role := .active }).lane q)
      ((scanClosed s).probe q)
    have htimer : ((scanClosed s).probe q).timer ≠ none ↔ ((scanClosed s).probe q).st = .waiting := by
      simp [timer, idle]
    by_cases hqw : q = w
    · rw [hqw] at lane htimer idle ⊢
      rw [State.lane_modLane_same _ _ hlt]
      have ho : ((scanClosed s).lane w).role ≠ .closed := by simp [hstand]
      obtain ⟨hs, wt, -, hd, he⟩ := (laneInv_of_open ho).1 lane
      exact portInv_connected.2 ⟨(laneInv_of_open (by simp)).2 ⟨hs, wt, nofun, hd, he⟩, htimer, by simp, idle⟩
    · rw [State.lane_modLane_ne _ _ hqw]
      refine portInv_connected.2 ⟨lane, htimer, ?_, idle⟩
      rw [if_neg hqw]
      rcases role with role | ⟨-, hq⟩
      · exact role
      · exact absurd (Option.some.inj (hq.symm.trans hw)) hqw

theorem ConnInv.scanEnd (h : ConnInv s) (hr : scanEndReady s = true) : ConnInv (scanEnd s) := by
  obtain ⟨-, -, -, win, -⟩ := scanClosed_spec h hr
  rw [scanEnd_eq, win]
  cases hw : s.scan.winner with
  | none => exact h.scanFails hr _ (by simp [hw])
  | some w =>
    simp only
    split
    · exact h.scanWins hr hw ‹_›
    · rename_i hgone
      exact h.scanFails hr _ fun v hv => by rwa [← Option.some.inj (hw.symm.trans hv)]

/-! ## Reset and the host -/

theorem ConnInv.resetBlock (h : ConnInv s) : ConnInv (resetBlock s) := by
  obtain ⟨⟨hn, hll, hpl, -⟩, -⟩ := connInv_iff.1 h
  refine connInv_iff.2 ⟨⟨hn, ?_, ?_, ?_, nofun, fun _ => rfl, nofun⟩, fun q hq => ?_⟩
  · simpa [Machine.resetBlock] using hll
  · simpa [Machine.resetBlock] using hpl
  · simp [Machine.resetBlock, Scan.reset]
  · have hq' : q < s.params.nPorts := hq
    have hlt : q < s.lanes.length := by rwa [hll]
    have hltp : q < s.probes.length := by rwa [hpl]
    have hlane : (Machine.resetBlock s).lane q = (s.lane q).afterReset (s.pin q).cut := by
      simp [Machine.resetBlock, State.lane, hlt, State.pin]
    have hprobe : (Machine.resetBlock s).probe q = Probe.reset := by
      simp [Machine.resetBlock, State.probe, hltp]
    rw [hlane, hprobe]
    exact portInv_disconnected.2 ⟨(laneInv_of_closed rfl).2 ⟨rfl, rfl, rfl, rfl, rfl⟩, by simp [Probe.reset], rfl, rfl⟩

theorem ConnInv.hostTakesLane (h : ConnInv s) {e : Event} {es : List Event}
    (hx : (s.lane p).rx = .delivering (e :: es)) :
    ConnInv (s.modLane p fun l => { l with rx := if es = [] then .idle else .delivering es }) := by
  have ho : (s.lane p).role ≠ .closed := fun hc => by simp [(h.closed_lane hc).1] at hx
  have hl := (h.port (h.lt_of_role ho)).1
  obtain ⟨-, -, -, -, hdone⟩ := (laneInv_of_open ho).1 hl
  simp only [Lane.rxEvents, hx] at hdone
  have hrest : reqDones es = 0 := by
    rw [← List.singleton_append, reqDones_append] at hdone; omega
  refine h.modLane ho rfl ?_
  cases es with
  | nil => exact hl.receive ho rfl rfl rfl nofun nofun rfl
  | cons e' es => exact hl.receive ho rfl rfl rfl nofun nofun hrest

theorem ConnInv.finish (h : ConnInv s) (d : Descriptor) (ok : Bool) : ConnInv (finish d ok s) := by
  unfold Machine.finish
  cases ok
  · exact h
  · by_cases hs : d.opcode = 0x07#8 <;> simp only [hs, if_true, if_false] <;> exact h

/-! ## Every step -/

/-- Every effect keeps the lanes and the connection state in agreement. -/
theorem ConnInv.effect {u : State} {x : Input} (h : ConnInv s) (he : Effect s x u) : ConnInv u := by
  cases he with
  | none => exact h
  | take => exact ConnInv.execute (s := s.modReq _) h _
  | regWrite off v => unfold writeReg; split <;> exact h
  | rxLine p b bytes => exact h.rxLine p bytes
  | arrive p b => exact h.arrive p b
  | rxStep hr => exact h.rxStep hr
  | txDone hq => exact h.txDone hq _
  | writeTimeout hq => exact h.writeTimeout hq _
  | portFault p => exact h.portFault p
  | probeOpen hst => exact h.probeOpen hst
  | probeTimer => exact h.probeFail _
  | scanEnd hr => exact h.scanEnd hr
  | sendComplete ok => exact h.finish _ ok
  | scanComplete | retire | hostTakesCtl | advance | setPin => exact h
  | reset => exact h.resetBlock
  | hostTakesLane hx => exact h.hostTakesLane hx

end

end Sys2Proof.Machine

section
open Sys2Proof Sys2Proof.Machine

/-- Settles O56: every effect keeps the agreement, looked at port by port. -/
theorem stepKeepsLanesAndConnectionInAgreement : Obligations.StepKeepsLanesAndConnectionInAgreement := fun _ _ hs h =>
  step_keeps (P := ConnInv) (fun _ _ _ => Iff.rfl) ConnInv.effect hs h

end

/-! # The request engine and the outbox agree (10_state.md R44, R48, 44_protocol.md R300) -/

namespace Sys2Proof.Machine

/-! ## Frames of the request engine in the TX queues -/

/-- How many frames of the request engine wait in one lane's queue: its summand of `requestFrames`. -/
def Lane.requestFrames (l : Lane) : Nat := l.txq.countP (fun i => decide (i.owner = .request))

theorem requestFrames_eq (s : State) : requestFrames s = (s.lanes.map Lane.requestFrames).sum := rfl

theorem Lane.requestFrames_of_nil {l : Lane} (h : l.txq = []) : l.requestFrames = 0 := by
  simp [Lane.requestFrames, h]

theorem Lane.requestFrames_eq_zero {l : Lane} :
    l.requestFrames = 0 ↔ l.txq.any (fun i => decide (i.owner = .request)) = false := by
  simp [Lane.requestFrames, List.countP_eq_zero]

theorem sum_map_modify {α : Type} (f : α → α) (g : α → Nat) (d : α) : ∀ (xs : List α) (p : Nat), p < xs.length →
    ((xs.modify p f).map g).sum + g (xs.getD p d) = (xs.map g).sum + g (f (xs.getD p d)) := by
  intro xs
  induction xs with
  | nil => intro p hp; simp at hp
  | cons x xs ih =>
    intro p hp
    cases p with
    | zero => simp; omega
    | succ p =>
      have := ih p (by simpa using hp)
      simp only [List.modify_succ_cons, List.map_cons, List.sum_cons, List.getD_cons_succ]
      omega

section
variable {p : Nat} {s t u : State}

/-- Changing a lane moves `requestFrames` by what that lane's queue gains or loses. -/
theorem requestFrames_modLane {f : Lane → Lane}
    (h : p < s.lanes.length ∨ (f (s.lane p)).requestFrames = (s.lane p).requestFrames) :
    requestFrames (s.modLane p f) + (s.lane p).requestFrames = requestFrames s + (f (s.lane p)).requestFrames := by
  by_cases hp : p < s.lanes.length
  · exact sum_map_modify f Lane.requestFrames Lane.reset s.lanes p hp
  · rw [h.resolve_left hp, requestFrames_eq, State.modLane_lanes, List.modify_eq_self (by omega), requestFrames_eq]

/-! ## Steps that touch the engine only through its queued frame -/

/-- A frame of the engine is queued exactly while `req.send` is PENDING (the part of `EngineInv` that an operation on
the lanes can touch). -/
def SendInv (s : State) : Prop := requestFrames s = if s.req.send = .pending then 1 else 0

/-- From `s` to `t` the connection, the outbox, the scan's result and the engine's phase stand, and the engine is
told of what becomes of its frame. -/
def SendStep (s t : State) : Prop :=
  t.conn = s.conn ∧ t.ctlOut = s.ctlOut ∧ t.scan.result = s.scan.result ∧ t.req.busy = s.req.busy ∧
  t.req.phase = s.req.phase ∧ (SendInv s → SendInv t ∧ (t.req.send = .unset ↔ s.req.send = .unset))

theorem SendStep.refl (s : State) : SendStep s s := ⟨rfl, rfl, rfl, rfl, rfl, fun h => ⟨h, Iff.rfl⟩⟩

theorem SendStep.trans (h : SendStep s t) (h' : SendStep t u) : SendStep s u := by
  obtain ⟨co, ou, re, bu, ph, se⟩ := h
  obtain ⟨co', ou', re', bu', ph', se'⟩ := h'
  refine ⟨co'.trans co, ou'.trans ou, re'.trans re, bu'.trans bu, ph'.trans ph, fun hs => ?_⟩
  obtain ⟨ht, hu⟩ := se hs
  exact ⟨(se' ht).1, (se' ht).2.trans hu⟩

/-- A step that touches the engine only through its frame keeps its agreement with the outbox. -/
theorem EngineInv.of_sendStep (h : EngineInv s) (hs : SendStep s t) : EngineInv t := by
  obtain ⟨busy, valid, scanning, ended, send, frames, room⟩ := h
  obtain ⟨co, ou, re, bu, ph, se⟩ := hs
  obtain ⟨frames', unset⟩ := se frames
  refine ⟨?_, ?_, ?_, ?_, ?_, frames', ?_⟩
  · rw [bu, ph]; exact busy
  · rw [ph]; exact valid
  · rw [co, ph]; exact scanning
  · rw [ph, co, re]; exact ended
  · rw [ph, Ne, unset]; exact send
  · simp only [mayEnd, outboxRoom, co, ou, ph] at room ⊢; exact room

/-- A change of a lane that keeps the engine's frames in its queue. -/
theorem SendStep.modLane (h : SendStep s t) {f : Lane → Lane}
    (hf : (f (t.lane p)).requestFrames = (t.lane p).requestFrames) : SendStep s (t.modLane p f) := by
  refine h.trans ⟨rfl, rfl, rfl, rfl, rfl, fun ht => ⟨?_, Iff.rfl⟩⟩
  have := requestFrames_modLane (.inr hf) (p := p) (s := t)
  unfold SendInv at ht ⊢
  rw [State.modLane_req, ← ht]
  omega

/-- The engine's frame leaves a queue, and the engine is told how it ended. -/
theorem SendStep.frameLeaves {f : Lane → Lane} {o : SendSt} (hu : o ≠ .unset) (hp : o ≠ .pending)
    (h1 : 1 ≤ (s.lane p).requestFrames)
    (hf : (f (s.lane p)).requestFrames = 0 ∨ (f (s.lane p)).requestFrames + 1 = (s.lane p).requestFrames) :
    SendStep s ((s.modReq (fun r => { r with send := o })).modLane p f) := by
  refine ⟨rfl, rfl, rfl, rfl, rfl, fun hs => ?_⟩
  have hlt : p < s.lanes.length := by
    by_contra hx
    rw [State.lane, List.getD_eq_default _ _ (by omega)] at h1
    exact absurd h1 (by decide)
  have hsum := requestFrames_modLane (s := s) (f := f) (.inl hlt)
  have hframes : requestFrames ((s.modReq (fun r => { r with send := o })).modLane p f) =
    requestFrames (s.modLane p f) := rfl
  unfold SendInv at hs ⊢
  simp only [State.modLane_req, State.modReq_req, hu, hp, if_false, false_iff, hframes]
  by_cases hsend : s.req.send = .pending
  · rw [if_pos hsend] at hs
    refine ⟨?_, by simp [hsend]⟩
    rcases hf with hf | hf <;> omega
  · rw [if_neg hsend] at hs
    rcases hf with hf | hf <;> omega

/-- The head of a queue leaves, and its owner's engine is told how it ended. -/
theorem SendStep.headLeaves {f : Lane → Lane} {i : TxItem} {q : List TxItem} {o : SendSt} (hu : o ≠ .unset)
    (hp : o ≠ .pending) (hq : (s.lane p).txq = i :: q) (hf : (f (s.lane p)).txq = q) :
    SendStep s ((s.modReq (fun r => if i.owner = .request then { r with send := o } else r)).modLane p f) := by
  have hcount : (s.lane p).requestFrames =
      (f (s.lane p)).requestFrames + if i.owner = .request then 1 else 0 := by
    simp [Lane.requestFrames, hq, hf, List.countP_cons]
  by_cases hi : i.owner = .request
  · simp only [hi, if_true] at hcount ⊢
    exact SendStep.frameLeaves hu hp (by omega) (.inr (by omega))
  · simp only [hi, if_false] at hcount ⊢
    exact SendStep.modLane (t := s.modReq _) (SendStep.refl s) (by rw [State.lane_modReq]; omega)

/-- A stop fails the engine's frame, if it is in that lane's queue. -/
theorem SendStep.stopLane (h : SendStep s t) (p : Nat) : SendStep s (stopLane p t) := by
  refine h.trans ?_
  have hstop : ((t.lane p).stopped (t.pin p).cut).requestFrames = 0 := rfl
  rw [stopLane_eq]
  by_cases hn : (t.lane p).requestFrames = 0
  · rw [Lane.requestFrames_eq_zero.1 hn]
    exact SendStep.modLane (t := State.setProbes _ _) (SendStep.refl t) (hstop.trans hn.symm)
  · have hany : (t.lane p).txq.any (fun i => decide (i.owner = .request)) = true := by
      rw [← Bool.not_eq_false, ← Lane.requestFrames_eq_zero]; exact hn
    rw [hany]
    exact SendStep.frameLeaves (by decide) (by decide) (by omega) (.inl hstop)

theorem SendStep.probeFail (h : SendStep s t) (p : Nat) : SendStep s (probeFail p t) := by
  rcases probeFail_cases p t with ⟨-, e⟩ | ⟨-, e⟩ <;> rw [e]
  · exact SendStep.stopLane (t := t.modProbe p _) h p
  · exact h

theorem SendStep.txDone {i : TxItem} {q : List TxItem} (hq : (s.lane p).txq = i :: q) :
    SendStep s (txDone p i.owner s) := by
  rw [txDone_eq, notifyOk_eq]
  exact SendStep.headLeaves (f := fun l => l.headSent.startNext s.now) (o := .ok) nofun nofun hq
    (by rw [Lane.headSent_startNext hq])

theorem SendStep.notifyFail_headFailed {i : TxItem} {q : List TxItem} (hq : (s.lane p).txq = i :: q) (cut : Nat) :
    SendStep s (notifyFail p i.owner (s.modLane p (Lane.headFailed cut))) := by
  have hhead := SendStep.headLeaves (f := Lane.headFailed cut) (o := .fail) nofun nofun hq (by simp [hq])
  cases ho : i.owner with
  | request => rw [ho] at hhead; exact hhead
  | probe =>
    have hlane : SendStep s (s.modLane p (Lane.headFailed cut)) := by rw [ho] at hhead; exact hhead
    rw [notifyFail_probe]
    split
    · exact hlane.probeFail p
    · exact hlane

theorem SendStep.arrive (h : SendStep s t) (p : Nat) (b : Byte) : SendStep s (arrive p b t) := by
  unfold Machine.arrive
  split
  · exact h
  · split
    · exact h
    · exact h.modLane rfl

theorem SendStep.probeFrame (h : SendStep s t) (p : Nat) (f : Frame) : SendStep s (probeFrame p f t) := by
  unfold Machine.probeFrame
  split
  · unfold probeSuccess arbitrate
    split
    · exact h
    · split <;> exact h
  · exact h

theorem SendStep.routeFrames (p : Nat) (fs : List Frame) : ∀ {t : State}, SendStep s t →
    SendStep s (routeFrames p fs t).1 := by
  induction fs with
  | nil => exact fun h => h
  | cons f fs ih =>
    intro t h
    have h1 : SendStep s (routeFrame p f t).1 := by
      unfold routeFrame
      split
      · obtain ⟨_, _, _, _, _, e⟩ := inbound_changes f t
        rw [e]
        exact h
      · exact h.probeFrame p f
      · exact h
    exact ih h1

theorem SendStep.rxChunk (h : SendStep s t) (p k : Nat) : SendStep s (rxChunk p k t) := by
  obtain ⟨b, d, e⟩ := rxParsed_fst p k t
  have hparsed : SendStep s (rxParsed p k t).1 := by
    rw [e]
    exact SendStep.modLane (f := fun l => { l with stg := l.stg.drop k, rb := b }) h rfl
  have hroute := SendStep.routeFrames p (rxParsed p k t).2 hparsed
  rw [rxChunk_eq]
  split
  · exact hroute
  · exact hroute.modLane rfl

theorem SendStep.rxLine (h : SendStep s t) (p : Nat) (bytes : List Byte) : SendStep s (rxLine p bytes t) := by
  have harr : SendStep s (bytes.foldl (fun t b => Machine.arrive p b t) t) :=
    List.foldlRecOn bytes _ h fun _ ht b _ => ht.arrive p b
  simp only [Machine.rxLine]
  split
  · exact harr.rxChunk p _
  · exact harr

theorem SendStep.probeOpen (h : ConnInv s) (hst : (s.probe p).st = .opening) : SendStep s (probeOpen p s) := by
  have hb : (s.probe p).st ≠ .idle := by simp [hst]
  have hport := h.port (h.lt_of_probe hb)
  rw [hport.scanning_of_probe hb] at hport
  obtain ⟨-, -, lane⟩ := portInv_scanning.1 hport
  have hclosed : (s.lane p).role = .closed := by
    rcases lane with ⟨-, hn⟩ | ⟨hr, -⟩
    · simp [hst] at hn
    · exact hr
  have hzero := Lane.requestFrames_of_nil (h.closed_lane hclosed).2
  rcases probeOpen_cases p s with e | ⟨u, hu, e⟩ <;> rw [e]
  · exact SendStep.refl s
  · rcases hu with rfl | rfl
    · exact SendStep.modLane (t := s) (SendStep.refl s) (by rw [hzero]; rfl)
    · refine SendStep.modLane (t := s) (SendStep.refl s) ?_
      rw [hzero, Lane.requestFrames, Lane.queued_txq]
      rfl

theorem SendStep.stopLosers (s : State) : SendStep s (stopLosers s) := by
  refine List.foldlRecOn _ _ (SendStep.refl s) fun t ht p _ => ?_
  split
  · exact ht.stopLane p
  · exact ht

/-! ## The connection ends, or begins -/

theorem EngineInv.teardownActive (h : EngineInv s) (reason : Reason) : EngineInv (teardownActive reason s) := by
  rcases teardownActive_cases reason s with ⟨hc, e⟩ | ⟨-, e⟩ <;> rw [e]
  · have hstop := h.of_sendStep ((SendStep.refl s).stopLane s.active)
    obtain ⟨busy, valid, -, ended, send, frames, room⟩ := hstop
    rw [stopLane_conn, hc] at ended
    refine ⟨busy, valid, nofun, fun hp _ => ended hp nofun, send, frames, ?_⟩
    simp only [mayEnd, outboxRoom, stopLane_conn, hc, stopLane_ctlOut] at room
    simp only [mayEnd, outboxRoom, State.post_conn, State.setConn_conn, State.post_ctlOut, State.setConn_ctlOut,
      stopLane_ctlOut, List.length_append, List.length_singleton, State.post_req, State.setConn_req]
    simpa using room
  · exact h

/-- The end of a scan: it has a result, and posts one event, that may end a connection it made. -/
theorem EngineInv.scanEnded (h : EngineInv s) (hc : s.conn = .scanning) (hreq : t.req = s.req)
    (hlanes : requestFrames t = requestFrames s) (hconn : t.conn ≠ .scanning) (hres : t.scan.result ≠ .unset)
    (hout : t.ctlOut.length = s.ctlOut.length + 1) : EngineInv t := by
  obtain ⟨busy, valid, scanning, -, send, frames, room⟩ := h
  have hphase := scanning hc
  refine ⟨by rw [hreq]; exact busy, by rw [hreq]; exact valid, fun hx => absurd hx hconn, fun _ _ => hres,
    by rw [hreq]; exact send, by rw [hlanes, hreq]; exact frames, ?_⟩
  have hm : mayEnd t ≤ 1 := by unfold mayEnd; split <;> omega
  simp only [outboxRoom, hphase, hc, if_true] at room
  simp only [outboxRoom, hreq, hphase, hconn, if_false]
  omega

theorem EngineInv.scanEnd (h : EngineInv s) (hc : s.conn = .scanning) : EngineInv (scanEnd s) := by
  have hstop := h.of_sendStep (SendStep.stopLosers s)
  have hconn : (Machine.stopLosers s).conn = .scanning := (SendStep.stopLosers s).1.trans hc
  rw [scanEnd_eq]
  split
  · exact hstop.scanEnded hconn rfl rfl nofun nofun (List.length_append ..)
  · rename_i w _
    split
    · refine hstop.scanEnded hconn rfl ?_ nofun nofun (List.length_append ..)
      have := requestFrames_modLane (p := w) (f := fun l => { l with role := .active }) (s := scanClosed s) (.inr rfl)
      exact Nat.add_right_cancel this
    · exact hstop.scanEnded hconn rfl rfl nofun nofun (List.length_append ..)

/-! ## A request is executed -/

/-- The engine has taken a request and not answered it yet: no frame of it is queued, no scan runs, and the outbox
holds, with what a connection may still post, at most `n` events. -/
def Taken (n : Nat) (s : State) : Prop :=
  s.req.busy = true ∧ s.req.send = .unset ∧ requestFrames s = 0 ∧ s.conn ≠ .scanning ∧ s.ctlOut.length + mayEnd s ≤ n

theorem Taken.reqDone {n : Nat} (h : Taken n s) (hn : n ≤ 3) (op : Byte) (r : Result) :
    EngineInv (reqDone op r s) := by
  obtain ⟨busy, send, frames, conn, room⟩ := h
  have hm : mayEnd (Machine.reqDone op r s) = mayEnd s := rfl
  have hf : requestFrames (Machine.reqDone op r s) = requestFrames s := rfl
  refine ⟨?_, nofun, fun hc => absurd hc conn, nofun, ?_, ?_, ?_⟩
  · simp [reqDone_eq, busy]
  · simp [reqDone_eq, send]
  · rw [hf, frames]; simp [reqDone_eq, send]
  · rw [hm]; simp [reqDone_eq, outboxRoom]; omega

theorem Taken.teardownActive {n : Nat} (h : Taken n s) (reason : Reason) : Taken n (teardownActive reason s) := by
  obtain ⟨busy, send, frames, conn, room⟩ := h
  rcases teardownActive_cases reason s with ⟨hc, e⟩ | ⟨-, e⟩ <;> rw [e]
  · obtain ⟨-, ou, -, bu, -, se⟩ := (SendStep.refl s).stopLane s.active
    obtain ⟨frames', unset⟩ := se (by simp [SendInv, frames, send])
    have hsend := unset.2 send
    rw [SendInv, hsend] at frames'
    refine ⟨bu.trans busy, hsend, frames', nofun, ?_⟩
    simp only [mayEnd, hc] at room
    simpa [mayEnd] using room
  · exact ⟨busy, send, frames, conn, room⟩

theorem Taken.post {n : Nat} (h : Taken n s) (e : Event) : Taken (n + 1) (s.post e) := by
  obtain ⟨busy, send, frames, conn, room⟩ := h
  have hm : mayEnd (s.post e) = mayEnd s := rfl
  refine ⟨busy, send, frames, conn, ?_⟩
  rw [hm, State.post_ctlOut, List.length_append, List.length_singleton]
  omega


theorem Taken.manualConnect (h : Taken 1 s) (hi : ConnInv s) (op : Byte) (p : Nat) (baud : Word) :
    EngineInv (manualConnect op p baud s) := by
  have ht := h.teardownActive .requested
  rcases manualConnect_cases op p baud s with ⟨hc, -⟩ | ⟨-, e⟩ | ⟨hc, e⟩
  · obtain ⟨-, -, -, conn, -⟩ := h
    exact absurd hc conn
  · rw [e]; exact (ht.post _).reqDone (by decide) op _
  · rw [e]
    have hd := teardownActive_conn .requested hc
    have hclosed : ((Machine.teardownActive .requested s).lane p).role = .closed := by
      by_contra ho
      have hti := hi.teardownActive .requested
      have hport := hti.port (hti.lt_of_role ho)
      rw [hd] at hport
      obtain ⟨-, -, role, -⟩ := portInv_disconnected.1 hport
      exact ho role
    have hzero := Lane.requestFrames_of_nil ((hi.teardownActive .requested).closed_lane hclosed).2
    obtain ⟨busy, send, frames, -, room⟩ := ht
    have hframes := requestFrames_modLane (s := Machine.teardownActive .requested s) (p := p)
      (f := Lane.opened .active baud (Machine.teardownActive .requested s).regs) (.inr (by rw [hzero]; rfl))
    rw [frames, hzero] at hframes
    have hb : Taken 3 (becomeConnected p ((Machine.teardownActive .requested s).modLane p
        (Lane.opened .active baud (Machine.teardownActive .requested s).regs))) := by
      refine ⟨busy, send, hframes, nofun, ?_⟩
      simp only [mayEnd, hd] at room
      simp [becomeConnected_eq, mayEnd] at room ⊢
      omega
    exact hb.reqDone (by decide) op _

theorem Taken.beginScan (h : Taken 1 s) (hc : s.conn = .disconnected) : EngineInv (beginScan s) := by
  obtain ⟨busy, send, frames, -, room⟩ := h
  have hf : requestFrames (Machine.beginScan s) = requestFrames s := rfl
  refine ⟨by simp [Machine.beginScan, startScan, busy], nofun, fun _ => rfl, fun _ hx => absurd rfl hx, ?_, ?_, ?_⟩
  · simp [Machine.beginScan, startScan, send]
  · rw [hf, frames]; simp [Machine.beginScan, startScan, send]
  · simp [mayEnd, hc] at room
    simpa [Machine.beginScan, startScan, mayEnd, outboxRoom] using room

theorem Taken.protocolSend (h : Taken 1 s) (hi : ConnInv s) (c : Byte) (payload : List Byte) :
    EngineInv (protocolSend c payload s) := by
  obtain ⟨busy, send, frames, conn, room⟩ := h
  unfold Machine.protocolSend
  rcases sendFrame_cases s.active c payload .request (s.modReq fun q => { q with phase := .send })
    with ⟨-, e⟩ | ⟨-, ho, e⟩ <;> rw [e]
  · exact ⟨by simp [busy], nofun, fun hx => absurd hx conn, nofun, by simp, frames, room⟩
  · have hlt : s.active < s.lanes.length := by rw [hi.lanes_length]; exact hi.lt_of_role ho
    refine ⟨by simp [transmit_eq, busy], nofun, fun hx => absurd hx conn, nofun, by simp [transmit_eq], ?_, room⟩
    have := requestFrames_modLane (s := s) (p := s.active)
      (f := Lane.queued ⟨frameBytes c payload, .request⟩ s.now) (.inl hlt)
    have hq : ((s.lane s.active).queued ⟨frameBytes c payload, .request⟩ s.now).requestFrames =
        (s.lane s.active).requestFrames + 1 := by
      simp [Lane.requestFrames, Lane.queued_txq]
    rw [hq, frames] at this
    show requestFrames (s.modLane s.active (Lane.queued ⟨frameBytes c payload, .request⟩ s.now)) = 1
    omega

theorem Taken.execute (h : Taken 1 s) (hi : ConnInv s) (d : Descriptor) : EngineInv (execute d s) := by
  have ⟨_, _, _, hconn, _⟩ := h
  rcases execute_cases d s with ⟨r, e⟩ | ⟨k, -, -, e⟩ <;> rw [e]
  · exact h.reqDone (by decide) _ _
  · cases k with
    | manualConnect => exact h.manualConnect hi _ _ _
    | reconnect =>
      show EngineInv (reconnect _ s)
      unfold reconnect
      split
      · exact (h.teardownActive .reconnect).beginScan (teardownActive_conn _ hconn)
      · exact h.beginScan ‹_›
      · exact h.reqDone (by decide) _ _
    | scan =>
      show EngineInv (scanRequest _ s)
      unfold scanRequest
      split
      · exact h.beginScan ‹_›
      · exact h.reqDone (by decide) _ _
    | disconnect =>
      show EngineInv (disconnect _ s)
      unfold disconnect
      split
      · exact (h.teardownActive .requested).reqDone (by decide) _ _
      · exact h.reqDone (by decide) _ _
      · exact h.reqDone (by decide) _ _
    | getConfig | getStatus | setStimulation | setPhases | setEnable => exact h.protocolSend hi _ _

theorem EngineInv.take (h : EngineInv s) (hi : ConnInv s) (hr : takeReady s = true) (d : Descriptor) :
    EngineInv (take d s) := by
  obtain ⟨busy, -, scanning, -, send, frames, -⟩ := h
  obtain ⟨hb, hout⟩ : s.req.busy = false ∧ s.ctlOut = [] := by simpa [takeReady] using hr
  have hidle := busy.1 hb
  have hunset : s.req.send = .unset := by simpa [hidle] using send
  have hm : mayEnd s ≤ 1 := by unfold mayEnd; split <;> omega
  have ht : Taken 1 (s.modReq fun q => { q with busy := true, cur := d, phase := .validate }) := by
    refine ⟨rfl, hunset, ?_, fun hc => ?_, ?_⟩
    · rw [hunset] at frames; exact frames
    · simp [scanning hc] at hidle
    · show s.ctlOut.length + mayEnd s ≤ 1
      simpa [hout] using hm
  exact ht.execute hi d

/-! ## The engine's own steps, reset and the host -/

/-- R303, R308: Finish is the answer to a request whose send is over, after STIMULATION_SENT where it is due. -/
theorem finish_eq (d : Descriptor) (ok : Bool) (s : State) :
    finish d ok s = reqDone d.opcode (if ok then .ok else .sendFail)
      (if ok = true ∧ d.opcode = 0x07#8
       then (s.modReq (fun q => { q with send := .unset })).post (.stimulationSent d.ops)
       else s.modReq (fun q => { q with send := .unset })) := by
  cases ok with
  | false => rfl
  | true => by_cases h : d.opcode = 0x07#8 <;> simp [Machine.finish, h] <;> rfl

theorem EngineInv.finish (h : EngineInv s) {ok : Bool} (hp : s.req.phase = .send)
    (hs : s.req.send = if ok then .ok else .fail) (d : Descriptor) : EngineInv (finish d ok s) := by
  obtain ⟨busy, -, scanning, -, -, frames, room⟩ := h
  have ht : Taken 1 (s.modReq fun q => { q with send := .unset }) := by
    refine ⟨?_, rfl, ?_, fun hc => ?_, ?_⟩
    · simpa [hp] using busy
    · have hn : s.req.send ≠ .pending := by rw [hs]; cases ok <;> decide
      rw [if_neg hn] at frames
      exact frames
    · simp [scanning hc] at hp
    · simp only [outboxRoom, hp] at room
      exact room
  rw [finish_eq]
  by_cases h7 : ok = true ∧ d.opcode = 0x07#8
  · rw [if_pos h7]; exact (ht.post _).reqDone (by decide) _ _
  · rw [if_neg h7]; exact ht.reqDone (by decide) _ _

theorem EngineInv.scanComplete (h : EngineInv s) (hi : ConnInv s) (hp : s.req.phase = .scan)
    (ha : s.scan.active = false) (op : Byte) (r : Result) : EngineInv (reqDone op r s) := by
  obtain ⟨busy, -, -, -, send, frames, room⟩ := h
  obtain ⟨-, -, -, scan, -⟩ := hi.control
  have hconn : s.conn ≠ .scanning := fun hc => by simp [scan.2 hc] at ha
  have hunset : s.req.send = .unset := by simpa [hp] using send
  have ht : Taken 3 s := by
    refine ⟨by simpa [hp] using busy, hunset, ?_, hconn, ?_⟩
    · rw [hunset] at frames; exact frames
    · simpa [outboxRoom, hp, hconn] using room
  exact ht.reqDone (by decide) op r

theorem EngineInv.retire (h : EngineInv s) (hp : s.req.phase = .done) (ho : s.ctlOut = []) :
    EngineInv (s.modReq fun q => { q with busy := false, phase := .idle }) := by
  obtain ⟨-, -, scanning, -, send, frames, -⟩ := h
  have hconn : s.conn ≠ .scanning := fun hc => by simp [scanning hc] at hp
  have hm : mayEnd s ≤ 1 := by unfold mayEnd; split <;> omega
  refine ⟨by simp, nofun, fun hc => absurd hc hconn, nofun, ?_, frames, ?_⟩
  · simpa [hp] using send
  · show s.ctlOut.length + mayEnd s ≤ 1
    simpa [ho] using hm

theorem engineInv_resetBlock (s : State) : EngineInv (resetBlock s) := by
  refine ⟨by simp [resetBlock, Req.reset], nofun, nofun, nofun, by simp [resetBlock, Req.reset], ?_, ?_⟩
  · rw [requestFrames_eq]
    refine List.sum_eq_zero fun n hn => ?_
    obtain ⟨l, hl, rfl⟩ := List.mem_map.1 hn
    obtain ⟨q, hq, rfl⟩ := List.mem_mapIdx.1 hl
    rfl
  · simp [resetBlock, Req.reset, mayEnd, outboxRoom]

theorem EngineInv.hostTakesCtl (h : EngineInv s) {e : Event} {es : List Event} (ho : s.ctlOut = e :: es) :
    EngineInv (({ s with ctlOut := es } : State).deliver e) := by
  obtain ⟨busy, valid, scanning, ended, send, frames, room⟩ := h
  refine ⟨busy, valid, scanning, ended, send, frames, Nat.le_trans ?_ room⟩
  rw [ho]
  exact Nat.add_le_add_right (Nat.le_succ _) _

/-! ## Every step -/

/-- Every effect keeps the engine and the outbox in agreement, where the lanes and the connection agree. -/
theorem EngineInv.effect {u : State} {x : Input} (h : EngineInv s) (hi : ConnInv s) (he : Effect s x u) :
    EngineInv u := by
  cases he with
  | none => exact h
  | take _ _ hr => exact h.take hi hr _
  | regWrite off v => unfold writeReg; split <;> exact h
  | rxLine p b bytes => exact h.of_sendStep ((SendStep.refl s).rxLine p bytes)
  | arrive p b => exact h.of_sendStep ((SendStep.refl s).arrive p b)
  | @rxStep p _ => exact h.of_sendStep ((SendStep.refl s).rxChunk p (chunkLen p s))
  | txDone hq => exact h.of_sendStep (SendStep.txDone hq)
  | @writeTimeout p i _ hq _ =>
    have hn := h.of_sendStep (SendStep.notifyFail_headFailed hq (s.pin p).cut)
    simp only [writeTimeout]
    split
    · exact hn.teardownActive _
    · exact hn
  | portFault p =>
    unfold portFault
    split
    · exact h.teardownActive _
    · exact h.of_sendStep ((SendStep.refl s).probeFail p)
    · exact h
  | probeOpen hst => exact h.of_sendStep (SendStep.probeOpen hi hst)
  | @probeTimer p _ => exact h.of_sendStep ((SendStep.refl s).probeFail p)
  | scanEnd hr =>
    obtain ⟨-, -, -, scan, -⟩ := hi.control
    exact h.scanEnd (scan.1 (scanEndReady_iff.1 hr).1)
  | sendComplete ok hp hs => exact h.finish hp hs _
  | scanComplete r hp ha => exact h.scanComplete hi hp ha _ r
  | retire hp ho => exact h.retire hp ho
  | reset => exact engineInv_resetBlock s
  | hostTakesCtl ho => exact h.hostTakesCtl ho
  | @hostTakesLane p e es _ =>
    exact h.of_sendStep (SendStep.modLane (t := s) (p := p)
      (f := fun l => { l with rx := if es = [] then .idle else .delivering es }) (SendStep.refl s) rfl)
  | advance | setPin => exact h

/-- R48: the outbox never holds more than four events. -/
theorem EngineInv.ctlOut_le (h : EngineInv s) : s.ctlOut.length ≤ 4 := by
  obtain ⟨-, -, -, -, -, -, room⟩ := h
  have hroom : outboxRoom s ≤ 4 := by
    unfold outboxRoom
    split
    any_goals omega
    split <;> omega
  omega

end

end Sys2Proof.Machine

section
open Sys2Proof Sys2Proof.Machine

/-- Settles O57: every effect keeps both invariants together, and the second bounds the outbox. -/
theorem stepKeepsEngineAndOutboxInAgreement : Obligations.StepKeepsEngineAndOutboxInAgreement := by
  intro s t hi h hstep
  have ht : ConnInv t ∧ EngineInv t :=
    step_keeps (P := fun u => ConnInv u ∧ EngineInv u) (fun _ _ _ => Iff.rfl)
      (fun ⟨hi, h⟩ he => ⟨hi.effect he, h.effect hi he⟩) ⟨hi, h⟩ hstep
  exact ⟨ht.2, ht.2.ctlOut_le⟩

end

/-! # The STATE register and the state after reset (10_state.md R22, R24, R47) -/

namespace Sys2Proof.Machine

/-! ## The fields of STATE -/

/-- R24, bit by bit: CONN in bits [1:0], 0 in [7:2], ACTIVE_PORT in [15:8], the two valid bits, REQ_BUSY, 0 above. -/
theorem stateWord_getLsbD (s : State) (i : Nat) : (stateWord s).getLsbD i =
    if i < 2 then s.conn.code.getLsbD i else if i < 8 then false
    else if i < 16 then (BitVec.ofNat 8 s.active).getLsbD (i - 8) else if i = 16 then s.regs.cfgValid
    else if i = 17 then s.regs.stsValid else if i = 18 then s.req.busy else false := by
  show BitVec.getLsbD (w := 13 + 1 + 1 + 1 + 8 + 6 + 2) (0#13 ++ BitVec.ofBool s.req.busy ++
    BitVec.ofBool s.regs.stsValid ++ BitVec.ofBool s.regs.cfgValid ++ BitVec.ofNat 8 s.active ++ 0#6 ++ s.conn.code) i = _
  simp only [BitVec.getLsbD_append, BitVec.getLsbD_ofBool, BitVec.getLsbD_zero]
  grind

theorem Conn.code_eq (c : Conn) :
    c.code = (match c with | .disconnected => 0#2 | .scanning => 1#2 | .connected => 2#2) := by
  cases c <;> rfl

/-! ## The state after reset -/

/-- R47: every lane reads as a lane after reset, and so does one that is not there. -/
theorem resetOf_lane (pr : Params) (pins : List Pin) (p : Nat) : (State.resetOf pr pins).lane p = Lane.reset := by
  by_cases hp : p < pr.nPorts <;> simp [State.lane, State.resetOf, hp]

theorem resetOf_probe (pr : Params) (pins : List Pin) (p : Nat) : (State.resetOf pr pins).probe p = Probe.reset := by
  by_cases hp : p < pr.nPorts <;> simp [State.probe, State.resetOf, hp]

section
variable {pr : Params} {pins : List Pin} (h : pr.wf)
include h

theorem storageInv_resetOf : StorageInv (State.resetOf pr pins) := by
  refine ⟨h, fun l hl => ⟨reset_lanes_wf pr pins h l hl, ?_⟩, rfl, rfl⟩
  rw [(List.mem_replicate.1 hl).2]
  exact Nat.zero_le _

theorem connInv_resetOf : ConnInv (State.resetOf pr pins) := by
  obtain ⟨-, hn, -⟩ := h
  refine connInv_iff.2 ⟨⟨hn, List.length_replicate, List.length_replicate, ?_, nofun, fun _ => rfl, nofun⟩,
    fun p _ => ?_⟩
  · simp [State.resetOf, Scan.reset]
  · rw [resetOf_lane, resetOf_probe]
    exact portInv_disconnected.2 ⟨(laneInv_of_closed rfl).2 ⟨rfl, rfl, rfl, rfl, rfl⟩, by simp [Probe.reset], rfl, rfl⟩

end

theorem engineInv_resetOf (pr : Params) (pins : List Pin) : EngineInv (State.resetOf pr pins) := by
  have hf : requestFrames (State.resetOf pr pins) = 0 := by
    simp [requestFrames, State.resetOf, Lane.reset]
  refine ⟨by simp [State.resetOf, Req.reset], nofun, nofun, nofun, by simp [State.resetOf, Req.reset], hf, ?_⟩
  exact Nat.zero_le _

/-! ## Reading registers that hold zeros -/

/-- R143: the words of LAST_CONFIG. -/
theorem readReg_lastConfig {off : Byte} (h : 0x40 ≤ off.toNat) (h' : off.toNat < 0x58) (s : State) :
    readReg off s = le32 s.regs.lastConfig (4 * (regIndex off - 0x10)) := by
  have hk : 0x10 ≤ regIndex off ∧ regIndex off < 0x16 := by unfold regIndex; omega
  unfold readReg
  split <;> try omega
  rw [if_pos hk.2]

/-- R143: the words of LAST_STATUS. -/
theorem readReg_lastStatus {off : Byte} (h : 0x60 ≤ off.toNat) (h' : off.toNat < 0x88) (s : State) :
    readReg off s = le32 s.regs.lastStatus (4 * (regIndex off - 0x18)) := by
  have hk : 0x18 ≤ regIndex off ∧ regIndex off < 0x22 := by unfold regIndex; omega
  unfold readReg
  split <;> try omega
  rw [if_neg (by omega), if_pos hk]

/-- Zeros, and the padding past them, read as the word 0. -/
theorem le32_replicate_zero (n i : Nat) : le32 (List.replicate n 0) i = 0 := by
  have hb : ∀ j, byteAt (List.replicate n 0) j = 0 := by
    intro j
    by_cases hj : j < n <;> simp [byteAt, hj]
  simp only [le32, hb]
  rfl

end Sys2Proof.Machine

section
open Sys2Proof Sys2Proof.Machine

/-- Settles O10: each field is its bits of the STATE word. -/
theorem stateWordFields : Obligations.StateWordFields := by
  intro s
  refine ⟨stateWord s, rfl, ?_, ?_, ?_, ?_, ?_, ?_, ?_⟩
  · refine Eq.trans ?_ (Conn.code_eq s.conn)
    ext i hi
    simp [stateWord_getLsbD, hi]
  · ext i hi
    simp [stateWord_getLsbD, (by omega : 2 + i < 8)]
  · ext i hi
    rw [BitVec.getElem_extractLsb', stateWord_getLsbD, if_neg (by omega), if_neg (by omega), if_pos (by omega),
      Nat.add_sub_cancel_left, BitVec.getLsbD_eq_getElem]
  · exact stateWord_getLsbD s 16
  · exact stateWord_getLsbD s 17
  · exact stateWord_getLsbD s 18
  · ext i hi
    rw [BitVec.getElem_extractLsb', stateWord_getLsbD, if_neg (by omega), if_neg (by omega), if_neg (by omega),
      if_neg (by omega), if_neg (by omega), if_neg (by omega)]
    simp

/-- Settles O53: the three invariants from R3's constraints on the parameters, and the rest from the reset values. -/
theorem resetStateIsGood : Obligations.ResetStateIsGood := by
  refine ⟨storageInv_resetOf Config.chip.ok, connInv_resetOf Config.chip.ok, engineInv_resetOf _ _, rfl, rfl, rfl,
    fun p => ?_, rfl, rfl, rfl, rfl, rfl, rfl, rfl, fun off w hw => ?_, fun off hoff => ?_⟩
  · rw [State.reset, resetOf_lane, resetOf_probe]
    exact ⟨rfl, rfl, rfl, rfl, rfl, rfl, rfl, rfl⟩
  · simp only [List.mem_cons, List.not_mem_nil, Prod.mk.injEq, or_false] at hw
    rcases hw with ⟨rfl, rfl⟩ | ⟨rfl, rfl⟩ | ⟨rfl, rfl⟩ | ⟨rfl, rfl⟩ | ⟨rfl, rfl⟩ | ⟨rfl, rfl⟩ | ⟨rfl, rfl⟩ | ⟨rfl, rfl⟩ |
      ⟨rfl, rfl⟩ | ⟨rfl, rfl⟩ | ⟨rfl, rfl⟩ | ⟨rfl, rfl⟩ | ⟨rfl, rfl⟩ | ⟨rfl, rfl⟩ | ⟨rfl, rfl⟩ | ⟨rfl, rfl⟩ <;> rfl
  · have hzero : readReg off State.reset = 0 := by
      rcases hoff with ⟨h, h'⟩ | ⟨h, h'⟩
      · exact (readReg_lastConfig h h' _).trans (le32_replicate_zero 21 _)
      · exact (readReg_lastStatus h h' _).trans (le32_replicate_zero 37 _)
    show answer State.reset (.word (readReg off State.reset)) = _
    rw [hzero, answer_eq]

end

/-! # The register map (20_memory.md R72, R74, R76; 10_state.md R30, R32, R33) -/

namespace Sys2Proof.Machine

/-- R142, R75: the answer of REG_READ is the register's word, and nothing else changes. -/
theorem exec_regRead (off : Byte) (s : State) :
    exec (.regRead off) s = .next (s.setRet (.word (readReg off s))) := rfl

/-- R74: an offset selects the word that starts at its aligned offset. -/
theorem regIndex_of_aligned {off : Byte} {a : Nat} (h : off.toNat / 4 * 4 = a) :
    regIndex off = regIndex (BitVec.ofNat 8 a) := by
  unfold regIndex
  rw [BitVec.toNat_ofNat]
  omega

theorem readReg_congr {off off' : Byte} (h : regIndex off = regIndex off') (s : State) :
    readReg off s = readReg off' s := by
  unfold readReg
  rw [h]

/-- R74: bits [1:0] of the offset do not matter to a read. -/
theorem readReg_of_aligned {off : Byte} {a : Nat} (h : off.toNat / 4 * 4 = a) (s : State) :
    readReg off s = readReg (BitVec.ofNat 8 a) s :=
  readReg_congr (regIndex_of_aligned h) s

/-- R32, R72: word `k` of LAST_CONFIG. -/
theorem readReg_lastConfig_word {off : Byte} {k : Nat} (hk : k < 6) (h : off.toNat / 4 * 4 = 0x40 + 4 * k) (s : State) :
    readReg off s = le32 s.regs.lastConfig (4 * k) := by
  have hi : regIndex off - 0x10 = k := by unfold regIndex; omega
  rw [readReg_lastConfig (by omega) (by omega), hi]

/-- R33, R72: word `k` of LAST_STATUS. -/
theorem readReg_lastStatus_word {off : Byte} {k : Nat} (hk : k < 10) (h : off.toNat / 4 * 4 = 0x60 + 4 * k) (s : State) :
    readReg off s = le32 s.regs.lastStatus (4 * k) := by
  have hi : regIndex off - 0x18 = k := by unfold regIndex; omega
  rw [readReg_lastStatus (by omega) (by omega), hi]

end Sys2Proof.Machine

section
open Sys2Proof Sys2Proof.Machine

/-- Settles O7: a read sees only the aligned offset, and each row of the map is then the register read there; the two
byte arrays are read word by word. -/
theorem registerReadMap : Obligations.RegisterReadMap := by
  intro s off
  refine ⟨fun a w hw ha => ?_, fun k hk ha => ?_, fun k hk ha => ?_⟩
  · rw [exec_regRead, readReg_of_aligned ha]
    simp only [List.mem_cons, List.not_mem_nil, Prod.mk.injEq, or_false] at hw
    rcases hw with ⟨rfl, rfl⟩ | ⟨rfl, rfl⟩ | ⟨rfl, rfl⟩ | ⟨rfl, rfl⟩ | ⟨rfl, rfl⟩ | ⟨rfl, rfl⟩ | ⟨rfl, rfl⟩ | ⟨rfl, rfl⟩ |
      ⟨rfl, rfl⟩ | ⟨rfl, rfl⟩ | ⟨rfl, rfl⟩ | ⟨rfl, rfl⟩ | ⟨rfl, rfl⟩ | ⟨rfl, rfl⟩ | ⟨rfl, rfl⟩ | ⟨rfl, rfl⟩ <;> rfl
  · rw [exec_regRead, readReg_lastConfig_word hk ha, le32]
  · rw [exec_regRead, readReg_lastStatus_word hk ha, le32]

end

/-! # One REQ_DONE for each request (30_encoding.md R141, 44_protocol.md R300, R301, R303) -/

namespace Sys2Proof.Machine

/-- The REQ_DONE records posted so far, taken by the host or not. -/
def donesPosted (s : State) : Nat := reqDones (s.delivered ++ s.ctlOut)

/-- From `s` to `t` the engine keeps its request, posts one REQ_DONE just when it moves into phase DONE, and does not
leave that phase. -/
def Progress (s t : State) : Prop :=
  t.req.busy = s.req.busy ∧ t.req.cur = s.req.cur ∧ (s.req.phase = .done → t.req.phase = .done) ∧
  donesPosted t = donesPosted s + if t.req.phase = .done ∧ s.req.phase ≠ .done then 1 else 0

section
variable {p : Nat} {s t u : State}

/-! ## Rules -/

/-- The engine's record but for `send`, and the count of REQ_DONE records, stand. -/
theorem Progress.of_eq (busy : t.req.busy = s.req.busy) (cur : t.req.cur = s.req.cur)
    (phase : t.req.phase = s.req.phase) (dones : donesPosted t = donesPosted s) : Progress s t :=
  ⟨busy, cur, phase.trans, by rw [dones, phase]; simp⟩

theorem Progress.refl (s : State) : Progress s s := .of_eq rfl rfl rfl rfl

theorem Progress.trans (h : Progress s t) (h' : Progress t u) : Progress s u := by
  obtain ⟨busy, cur, keep, dones⟩ := h
  obtain ⟨busy', cur', keep', dones'⟩ := h'
  refine ⟨busy'.trans busy, cur'.trans cur, keep' ∘ keep, ?_⟩
  rw [dones', dones]
  by_cases hs : s.req.phase = .done
  · simp [hs, keep hs]
  · by_cases ht : t.req.phase = .done
    · simp [hs, ht, keep' ht]
    · simp [hs, ht]

theorem donesPosted_post (s : State) (e : Event) : donesPosted (s.post e) = donesPosted s + reqDones [e] := by
  rw [donesPosted, donesPosted, State.post_delivered, State.post_ctlOut, ← List.append_assoc, reqDones_append]

/-- An event that is no REQ_DONE may be posted. -/
theorem Progress.post (h : Progress s t) {e : Event} (he : reqDones [e] = 0) : Progress s (t.post e) :=
  h.trans (.of_eq rfl rfl rfl (by rw [donesPosted_post, he]; rfl))

/-- R300: `done` posts the one REQ_DONE and moves to phase DONE. -/
theorem Progress.reqDone (h : Progress s t) (hp : t.req.phase ≠ .done) (op : Byte) (r : Result) :
    Progress s (reqDone op r t) := by
  refine h.trans ⟨rfl, rfl, fun _ => rfl, ?_⟩
  rw [if_pos ⟨rfl, hp⟩]
  exact donesPosted_post t _

/-! ## The shared operations -/

theorem Progress.stopLane (h : Progress s t) (p : Nat) : Progress s (stopLane p t) := by
  have hreq : (Machine.stopLane p t).req.busy = t.req.busy ∧ (Machine.stopLane p t).req.cur = t.req.cur ∧
      (Machine.stopLane p t).req.phase = t.req.phase := by
    rw [stopLane_eq, State.modLane_req, State.setProbes_req, State.modReq_req]
    split <;> exact ⟨rfl, rfl, rfl⟩
  obtain ⟨busy, cur, phase⟩ := hreq
  exact h.trans (.of_eq busy cur phase (by simp [donesPosted]))

theorem Progress.probeFail (h : Progress s t) (p : Nat) : Progress s (probeFail p t) := by
  rcases probeFail_cases p t with ⟨-, e⟩ | ⟨-, e⟩ <;> rw [e]
  · exact Progress.stopLane (t := t.modProbe p _) h p
  · exact h

theorem Progress.teardownActive (h : Progress s t) (reason : Reason) : Progress s (teardownActive reason t) := by
  rcases teardownActive_cases reason t with ⟨-, e⟩ | ⟨-, e⟩ <;> rw [e]
  · have hstop : Progress s ((Machine.stopLane t.active t).setConn .disconnected noPort) := h.stopLane t.active
    exact hstop.post rfl
  · exact h

theorem Progress.becomeConnected (h : Progress s t) (p : Nat) : Progress s (becomeConnected p t) :=
  Progress.post (t := (t.setConn .connected p).modRegs Regs.invalidate) h rfl

/-! ## The receive and transmit paths -/

theorem Progress.arrive (h : Progress s t) (p : Nat) (b : Byte) : Progress s (arrive p b t) := by
  unfold Machine.arrive
  split
  · exact h
  · split <;> exact h

theorem Progress.routeFrames (p : Nat) (fs : List Frame) : ∀ {t : State}, Progress s t →
    Progress s (routeFrames p fs t).1 := by
  induction fs with
  | nil => exact fun h => h
  | cons f fs ih =>
    intro t h
    have h1 : Progress s (routeFrame p f t).1 := by
      unfold routeFrame
      split
      · obtain ⟨_, _, _, _, _, e⟩ := inbound_changes f t
        rw [e]
        exact h
      · obtain ⟨_, _, _, e⟩ := probeFrame_changes p f t
        rw [e]
        exact h
      · exact h
    exact ih h1

theorem Progress.rxChunk (h : Progress s t) (p k : Nat) : Progress s (rxChunk p k t) := by
  obtain ⟨b, d, e⟩ := rxParsed_fst p k t
  have hparsed : Progress s (rxParsed p k t).1 := by rw [e]; exact h
  have hroute := Progress.routeFrames p (rxParsed p k t).2 hparsed
  rw [rxChunk_eq]
  split <;> exact hroute

theorem Progress.rxLine (h : Progress s t) (p : Nat) (bytes : List Byte) : Progress s (rxLine p bytes t) := by
  have harr : Progress s (bytes.foldl (fun t b => Machine.arrive p b t) t) :=
    List.foldlRecOn bytes _ h fun _ ht b _ => ht.arrive p b
  simp only [Machine.rxLine]
  split
  · exact harr.rxChunk p _
  · exact harr

theorem Progress.txDone (h : Progress s t) (p : Nat) (o : Owner) : Progress s (txDone p o t) := by
  unfold Machine.txDone notifyOk
  cases o with
  | request => exact h
  | probe => dsimp only; split <;> exact h

theorem Progress.writeTimeout (h : Progress s t) (p : Nat) (o : Owner) : Progress s (writeTimeout p o t) := by
  have hn : Progress s (notifyFail p o (t.modLane p (Lane.headFailed (t.pin p).cut))) := by
    cases o with
    | request => exact h
    | probe =>
      rw [notifyFail_probe]
      split
      · exact Progress.probeFail (t := t.modLane p _) h p
      · exact h
  simp only [Machine.writeTimeout]
  split
  · exact hn.teardownActive _
  · exact hn

theorem Progress.portFault (h : Progress s t) (p : Nat) : Progress s (portFault p t) := by
  unfold Machine.portFault
  split
  · exact h.teardownActive _
  · exact h.probeFail p
  · exact h

/-! ## The scan -/

theorem Progress.probeOpen (h : Progress s t) (p : Nat) : Progress s (probeOpen p t) := by
  rcases probeOpen_cases p t with e | ⟨u, hu, e⟩ <;> rw [e]
  · exact h
  · rcases hu with rfl | rfl <;> exact h

theorem Progress.scanEnd (h : Progress s t) : Progress s (scanEnd t) := by
  have hstop : Progress s (stopLosers t) := by
    refine List.foldlRecOn _ _ h fun u hu p _ => ?_
    split
    · exact hu.stopLane p
    · exact hu
  have hclosed : Progress s (scanClosed t) := hstop
  have hfails (reason : Reason) : Progress s (scanFails reason (scanClosed t)) :=
    Progress.post (t := (scanClosed t).setConn .disconnected (scanClosed t).active) hclosed rfl
  rw [scanEnd_eq]
  split
  · exact hfails _
  · rename_i w _
    have hactive : Progress s ((scanClosed t).modLane w fun l => { l with role := .active }) := hclosed
    split
    · exact hactive.becomeConnected w
    · exact hfails _

/-! ## Execute, and the completions of a request -/

theorem teardownActive_phase (reason : Reason) (s : State) :
    (Machine.teardownActive reason s).req.phase = s.req.phase := by
  rcases teardownActive_cases reason s with ⟨-, e⟩ | ⟨-, e⟩ <;> rw [e]
  rw [State.post_req, State.setConn_req, stopLane_eq, State.modLane_req, State.setProbes_req, State.modReq_req]
  split <;> rfl

/-- An engine that moves on inside a request, from a phase that is not DONE to another one. -/
theorem Progress.setPhase (h : Progress s t) {ph : Phase} (hp : t.req.phase ≠ .done) (hph : ph ≠ .done) :
    Progress s (t.modReq fun q => { q with phase := ph }) :=
  h.trans ⟨rfl, rfl, fun hd => absurd hd hp, by simp [hph, donesPosted]⟩

theorem Progress.beginScan (h : Progress s t) (hp : t.req.phase ≠ .done) : Progress s (beginScan t) :=
  Progress.setPhase (t := startScan t) h hp nofun

theorem Progress.protocolSend (h : Progress s t) (hp : t.req.phase ≠ .done) (c : Byte) (payload : List Byte) :
    Progress s (protocolSend c payload t) := by
  have hsend := h.setPhase hp (ph := .send) nofun
  unfold Machine.protocolSend
  rcases sendFrame_cases t.active c payload .request (t.modReq fun q => { q with phase := .send })
    with ⟨-, e⟩ | ⟨-, -, e⟩ <;> rw [e] <;> exact hsend

theorem Progress.manualConnect (hp : s.req.phase ≠ .done) (op : Byte) (p : Nat) (baud : Word) :
    Progress s (manualConnect op p baud s) := by
  have ht := (Progress.refl s).teardownActive .requested
  have hpt : (Machine.teardownActive .requested s).req.phase ≠ .done := by rwa [teardownActive_phase]
  rcases manualConnect_cases op p baud s with ⟨-, e⟩ | ⟨-, e⟩ | ⟨-, e⟩ <;> rw [e]
  · exact (Progress.refl s).reqDone hp _ _
  · exact (ht.post rfl).reqDone hpt _ _
  · exact (Progress.becomeConnected (t := State.modLane _ _ _) ht p).reqDone hpt _ _

/-- R302: every request's operation keeps the request, and completes it at most once. -/
theorem Progress.runRequest (hp : s.req.phase ≠ .done) (k : ReqKind) (op : Byte) (ops : List Byte) :
    Progress s (runRequest k op ops s) := by
  have hr := Progress.refl s
  have hpt (reason : Reason) : (Machine.teardownActive reason s).req.phase ≠ .done := by rwa [teardownActive_phase]
  cases k with
  | manualConnect => exact Progress.manualConnect hp _ _ _
  | reconnect =>
    show Progress s (reconnect op s)
    unfold reconnect
    split
    · exact (hr.teardownActive _).beginScan (hpt _)
    · exact hr.beginScan hp
    · exact hr.reqDone hp _ _
  | scan =>
    show Progress s (scanRequest op s)
    unfold scanRequest
    split
    · exact hr.beginScan hp
    · exact hr.reqDone hp _ _
  | disconnect =>
    show Progress s (disconnect op s)
    unfold disconnect
    split
    · exact (hr.teardownActive _).reqDone (hpt _) _ _
    · exact hr.reqDone hp _ _
    · exact hr.reqDone hp _ _
  | getConfig | getStatus | setStimulation | setPhases | setEnable => exact hr.protocolSend hp _ _

theorem Progress.execute (hp : s.req.phase ≠ .done) (d : Descriptor) : Progress s (execute d s) := by
  rcases execute_cases d s with ⟨r, e⟩ | ⟨k, -, -, e⟩ <;> rw [e]
  · exact (Progress.refl s).reqDone hp _ _
  · exact Progress.runRequest hp _ _ _

theorem Progress.finish (hp : s.req.phase ≠ .done) (d : Descriptor) (ok : Bool) : Progress s (finish d ok s) := by
  have hsend : Progress s (s.modReq fun q => { q with send := .unset }) := Progress.refl s
  rw [finish_eq]
  by_cases hstim : ok = true ∧ d.opcode = 0x07#8
  · rw [if_pos hstim]; exact (hsend.post rfl).reqDone hp _ _
  · rw [if_neg hstim]; exact hsend.reqDone hp _ _

/-! ## The host takes an event -/

theorem Progress.hostTakesCtl {e : Event} {es : List Event} (ho : s.ctlOut = e :: es) :
    Progress s (({ s with ctlOut := es } : State).deliver e) :=
  .of_eq rfl rfl rfl (by simp [donesPosted, ho])

/-- R344: what an RX engine delivers is no REQ_DONE. -/
theorem ConnInv.reqDones_rxEvents (h : ConnInv s) (p : Nat) : reqDones (s.lane p).rxEvents = 0 := by
  by_cases hp : p < s.params.nPorts
  · obtain ⟨-, -, -, -, -, hdone⟩ := (h.port hp).1
    exact hdone
  · rw [← h.lanes_length] at hp
    rw [State.lane, List.getD_eq_default _ _ (by omega)]
    rfl

theorem Progress.hostTakesLane (h : ConnInv s) {e : Event} {es : List Event} (f : Lane → Lane)
    (hl : (s.lane p).rx = .delivering (e :: es)) : Progress s ((s.modLane p f).deliver e) := by
  have hlane := h.reqDones_rxEvents p
  simp only [Lane.rxEvents, hl] at hlane
  have he : reqDones [e] = 0 := by
    have hsplit := reqDones_append [e] es
    rw [List.singleton_append] at hsplit
    omega
  refine .of_eq rfl rfl rfl ?_
  rw [donesPosted, donesPosted, State.deliver_delivered, State.deliver_ctlOut]
  simp only [State.modLane_delivered, State.modLane_ctlOut, reqDones_append, he, Nat.add_zero]

/-! ## Every step -/

/-- R300: an effect takes a request, retires one, resets, or lets the engine progress. -/
theorem Progress.effect {x : Input} (h : ConnInv s) (he : Effect s x u) :
    Progress s u ∨ x = .reset ∨
    (∃ i d, decodeInput s.params x = .instr i ∧ requestParts i = some (d.opcode, d.ops) ∧ takeReady s = true ∧
      u = take d s) ∨
    (s.req.phase = .done ∧ s.ctlOut = [] ∧ u = s.modReq fun q => { q with busy := false, phase := .idle }) := by
  have hr := Progress.refl s
  cases he with
  | none | advance | setPin => exact .inl hr
  | take hi hd hready => exact .inr (.inr (.inl ⟨_, _, hi, hd, hready, rfl⟩))
  | regWrite off v => left; unfold writeReg; split <;> exact hr
  | rxLine p b bytes => exact .inl (hr.rxLine p bytes)
  | arrive p b => exact .inl (hr.arrive p b)
  | rxStep => exact .inl (hr.rxChunk _ _)
  | txDone => exact .inl (hr.txDone _ _)
  | writeTimeout => exact .inl (hr.writeTimeout _ _)
  | portFault p => exact .inl (hr.portFault p)
  | probeOpen => exact .inl (hr.probeOpen _)
  | probeTimer => exact .inl (hr.probeFail _)
  | scanEnd => exact .inl hr.scanEnd
  | sendComplete ok hp => exact .inl (.finish (by simp [hp]) _ _)
  | scanComplete r hp => exact .inl (hr.reqDone (by simp [hp]) _ _)
  | retire hp ho => exact .inr (.inr (.inr ⟨hp, ho, rfl⟩))
  | reset => exact .inr (.inl rfl)
  | hostTakesCtl ho => exact .inl (.hostTakesCtl ho)
  | hostTakesLane hl => exact .inl (.hostTakesLane h _ hl)

/-- R300: from Take on, the engine is busy with the request it took; that request may be answered at once. -/
theorem take_spec (hp : s.req.phase ≠ .done) (d : Descriptor) :
    (take d s).req.busy = true ∧ (take d s).req.cur = d ∧
    donesPosted (take d s) = donesPosted s + if (take d s).req.phase = .done ∧ s.req.phase ≠ .done then 1 else 0 := by
  have hvalidate : (s.modReq fun q => { q with busy := true, cur := d, phase := .validate }).req.phase ≠ .done := nofun
  obtain ⟨busy, cur, -, dones⟩ := Progress.execute hvalidate d
  refine ⟨busy, cur, ?_⟩
  simp only [hvalidate, hp, ne_eq, not_false_eq_true, and_true] at dones ⊢
  exact dones

end

end Sys2Proof.Machine

section
open Sys2Proof Sys2Proof.Machine

/-- Settles O59: what each effect does to the engine, with Take and Retire the two that change whether it is busy. -/
theorem oneReqDoneARequest : Obligations.OneReqDoneARequest := by
  intro s t hconn hengine hstep hreset
  rcases step_cases hstep with ⟨-, rfl⟩ | ⟨x, rest, u, r, hx, he, rfl⟩
  · obtain ⟨-, -, -, dones⟩ := Progress.refl t
    exact ⟨dones, fun hi hb => by simp [hi] at hb, fun _ _ => ⟨rfl, id⟩, fun hb hi => by simp [hi] at hb⟩
  have hhead : s.inputs.head? = some x := by rw [hx]; rfl
  rcases Progress.effect (s := { s with inputs := rest }) hconn he with hprog | hreset' | htake | hretire
  · obtain ⟨busy, cur, keep, dones⟩ := hprog
    replace busy : u.req.busy = s.req.busy := busy
    refine ⟨dones, fun hi hb => ?_, fun _ _ => ⟨cur, keep⟩, fun hb hi => ?_⟩
    · simp [busy, hi] at hb
    · simp [busy, hb] at hi
  · exact absurd (hhead.trans (congrArg some hreset')) hreset
  · obtain ⟨i, d, hdec, hparts, hready, rfl⟩ := htake
    obtain ⟨hidle, hout⟩ : s.req.busy = false ∧ s.ctlOut = [] := by simpa [takeReady] using hready
    obtain ⟨hphase, -⟩ := hengine
    obtain ⟨busy, cur, dones⟩ := take_spec (s := { s with inputs := rest }) (by simp [hphase.1 hidle]) d
    refine ⟨dones, fun _ _ => ⟨hout, x, i, _, _, hhead, hdec, hparts, cur⟩, fun hb => ?_, fun hb => ?_⟩
    · simp [hidle] at hb
    · simp [hidle] at hb
  · obtain ⟨hphase, hout, rfl⟩ := hretire
    exact ⟨rfl, fun _ hb => absurd hb nofun, fun _ hb => absurd hb nofun, fun _ _ => ⟨hphase, hout⟩⟩

end

/-! # The decoder and the encoder agree (30_encoding.md R100-R106, R120-R129, R142) -/

namespace Sys2Proof.Machine

/-! ## Bytes and numbers -/

/-- R14: two bytes are the encoding of the number they read as. -/
theorem bytesLe16_le16 (b0 b1 : Byte) : bytesLe16 (le16 [b0, b1] 0) = [b0, b1] := by
  have h0 := b0.isLt
  have h1 := b1.isLt
  simp only [bytesLe16, le16, byteAt, List.getD_cons_zero, List.getD_cons_succ, List.cons.injEq, and_true]
  constructor <;> apply BitVec.eq_of_toNat_eq <;> rw [BitVec.toNat_ofNat] <;> omega

theorem le16_le (b : List Byte) (i : Nat) : le16 b i ≤ 65535 := by
  have h0 := (byteAt b i).isLt
  have h1 := (byteAt b (i + 1)).isLt
  unfold le16
  omega

/-- A constant with `k` low bits of zero, and those bits put in, is the sum of the two. -/
theorem toNat_or_low {k : Nat} (hk : k ≤ 8) (m : Byte) (low : BitVec k) (hm : m.toNat % 2 ^ k = 0) :
    (m ||| low.setWidth 8).toNat = m.toNat + low.toNat := by
  have hlow := low.isLt
  have hle : 2 ^ k ≤ 2 ^ 8 := Nat.pow_le_pow_right (by omega) hk
  obtain ⟨a, ha⟩ := Nat.dvd_of_mod_eq_zero hm
  rw [BitVec.toNat_or, BitVec.toNat_setWidth, Nat.mod_eq_of_lt (by omega), ha, Nat.two_pow_add_eq_or_of_lt hlow]

/-- Masking off the `k` low bits gives a constant with none of them just when the bits above are the constant's. -/
theorem and_mask_eq_iff {k : Nat} (op m mask : Byte) (hmask : ∀ i < 8, mask.getLsbD i = decide (k ≤ i))
    (hm : m &&& mask = m) : op &&& mask = m ↔ op.toNat / 2 ^ k = m.toNat / 2 ^ k := by
  have hshift : op &&& mask = m ↔ op >>> k = m >>> k := by
    refine ⟨fun h => ?_, fun h => ?_⟩
    · rw [← h]
      ext i hi
      simp only [BitVec.getElem_ushiftRight, BitVec.getLsbD_and]
      by_cases hki : k + i < 8
      · simp [hmask _ hki]
      · simp [BitVec.getLsbD_of_ge _ _ (by omega : 8 ≤ k + i)]
    · rw [← hm]
      ext i hi
      simp only [← BitVec.getLsbD_eq_getElem, BitVec.getLsbD_and, hmask i hi]
      by_cases hki : k ≤ i
      · have hbit := congrArg (fun v => v.getLsbD (i - k)) h
        simp only [BitVec.getLsbD_ushiftRight, Nat.add_sub_cancel' hki] at hbit
        rw [hbit]
      · simp [hki]
  rw [hshift, ← BitVec.toNat_inj, BitVec.toNat_ushiftRight, BitVec.toNat_ushiftRight, Nat.shiftRight_eq_div_pow,
    Nat.shiftRight_eq_div_pow]

/-! ## Request rows -/

/-- R121-R129: the ranges of opcodes that the rows of format REQ stand for. -/
theorem requestInstr_eq (op : Byte) (ops : List Byte) : requestInstr op ops =
    if op.toNat = 0x01 then .manualConnect ops
    else if op.toNat = 0x02 then .reconnect ops
    else if op.toNat = 0x03 then .scan ops
    else if op.toNat = 0x04 then .disconnect ops
    else if op.toNat = 0x05 then .getConfig ops
    else if op.toNat = 0x06 then .getStatus ops
    else if op.toNat = 0x07 then .setStimulation ops
    else if op.toNat = 0x08 then .setPhases ops
    else if op.toNat = 0x09 then .setEnable ops
    else if op.toNat = 0x00 then .reservedReq00 ops
    else if op.toNat / 2 ^ 1 = 0x0A / 2 ^ 1 then .reservedReq0A (op.extractLsb' 0 1) ops
    else if op.toNat / 2 ^ 2 = 0x0C / 2 ^ 2 then .reservedReq0C (op.extractLsb' 0 2) ops
    else if op.toNat / 2 ^ 4 = 0x10 / 2 ^ 4 then .reservedReq10 (op.extractLsb' 0 4) ops
    else if op.toNat / 2 ^ 5 = 0x20 / 2 ^ 5 then .reservedReq20 (op.extractLsb' 0 5) ops
    else if op.toNat / 2 ^ 6 = 0x40 / 2 ^ 6 then .reservedReq40 (op.extractLsb' 0 6) ops
    else .reservedReq80 (op.extractLsb' 0 7) ops := by
  have h0A := and_mask_eq_iff (k := 1) op 0x0A#8 0xFE#8 (by decide) rfl
  have h0C := and_mask_eq_iff (k := 2) op 0x0C#8 0xFC#8 (by decide) rfl
  have h10 := and_mask_eq_iff (k := 4) op 0x10#8 0xF0#8 (by decide) rfl
  have h20 := and_mask_eq_iff (k := 5) op 0x20#8 0xE0#8 (by decide) rfl
  have h40 := and_mask_eq_iff (k := 6) op 0x40#8 0xC0#8 (by decide) rfl
  simp only [requestInstr, h0A, h0C, h10, h20, h40, ← BitVec.toNat_inj, BitVec.toNat_ofNat]

/-- The opcode byte of a reserved row: its range, and the bits that the row's mask leaves free. -/
theorem or_low_spec {k : Nat} (hk : k ≤ 8) {m op : Byte} {low : BitVec k} (hm : m.toNat % 2 ^ k = 0)
    (hop : m ||| low.setWidth 8 = op) : op.toNat = m.toNat + low.toNat ∧ op.extractLsb' 0 k = low := by
  subst hop
  refine ⟨toNat_or_low hk m low hm, BitVec.eq_of_toNat_eq ?_⟩
  rw [BitVec.extractLsb'_toNat, toNat_or_low hk m low hm, Nat.shiftRight_zero, Nat.add_mod, hm, Nat.zero_add,
    Nat.mod_mod, Nat.mod_eq_of_lt low.isLt]

/-- An opcode in a reserved row's range is the row's constant with the opcode's low bits. -/
theorem or_extractLsb' {k : Nat} (hk : k ≤ 8) {m op : Byte} (hm : m.toNat % 2 ^ k = 0)
    (h : op.toNat / 2 ^ k = m.toNat / 2 ^ k) : m ||| (op.extractLsb' 0 k).setWidth 8 = op := by
  apply BitVec.eq_of_toNat_eq
  rw [toNat_or_low hk _ _ hm, BitVec.extractLsb'_toNat, Nat.shiftRight_zero, ← Nat.div_add_mod op.toNat (2 ^ k), h,
    Nat.mul_add_mod, Nat.mod_mod]
  have := Nat.div_add_mod m.toNat (2 ^ k)
  omega

/-- R121-R129: a request row is the one its opcode byte names. -/
theorem requestInstr_of_requestParts {i : Instr} {op : Byte} {ops : List Byte}
    (h : requestParts i = some (op, ops)) : requestInstr op ops = i := by
  cases i with
  | reservedReq0A low ops' | reservedReq0C low ops' | reservedReq10 low ops' | reservedReq20 low ops'
  | reservedReq40 low ops' | reservedReq80 low ops' =>
    obtain ⟨hop, rfl⟩ := Prod.mk.inj (Option.some.inj h)
    obtain ⟨hval, hlow⟩ := or_low_spec (by decide) rfl hop
    have hlt := low.isLt
    rw [requestInstr_eq, hlow]
    clear h hop hlow
    simp only [BitVec.toNat_ofNat, Nat.reduceMod, Nat.reducePow] at hval hlt
    simp (disch := omega) only [if_neg, if_pos]
  | _ => cases h <;> rfl

/-- R121-R129: the row an opcode byte names stands for that opcode and its operands. -/
theorem requestParts_requestInstr_eq (op : Byte) (ops : List Byte) :
    requestParts (requestInstr op ops) = some (op, ops) := by
  have hfixed (c : Byte) (h : op.toNat = c.toNat) : some (c, ops) = some (op, ops) := by
    rw [BitVec.eq_of_toNat_eq h]
  have hmasked {k : Nat} (hk : k ≤ 8) (m : Byte) (hm : m.toNat % 2 ^ k = 0) (h : op.toNat / 2 ^ k = m.toNat / 2 ^ k) :
      some (m ||| (op.extractLsb' 0 k).setWidth 8, ops) = some (op, ops) := by
    rw [or_extractLsb' hk hm h]
  rw [requestInstr_eq]
  -- ten rows of one opcode, five rows of a range, and the rest
  iterate 10
    refine iteInduction (motive := fun i => requestParts i = some (op, ops)) (fun h => hfixed _ h) fun _ => ?_
  iterate 5
    refine iteInduction (motive := fun i => requestParts i = some (op, ops))
      (fun h => hmasked (by decide) _ rfl h) fun _ => ?_
  refine hmasked (by decide) 0x80#8 rfl ?_
  have hlt := op.isLt
  simp only [BitVec.toNat_ofNat, Nat.reduceMod, Nat.reducePow]
  omega

/-- R120, R121-R129: bytes at the request port that decode are the descriptor of the row they decode to. -/
theorem decodeRequest_ok {d : List Byte} {i : Instr} (h : decodeRequest d = .ok i) :
    ∃ op ops, requestParts i = some (op, ops) ∧ ops.length ≤ 65535 ∧ descriptorBytes op ops = d := by
  unfold decodeRequest at h
  split at h
  · rename_i op l0 l1 ops
    split at h
    · rename_i hlen
      cases h
      refine ⟨op, ops, requestParts_requestInstr_eq op ops, hlen ▸ le16_le _ _, ?_⟩
      rw [descriptorBytes, hlen, bytesLe16_le16]
      rfl
    · cases h
  · cases h

/-! ## Frames -/

theorem frameBytes_eq (c : Byte) (payload : List Byte) : frameBytes c payload =
    0xAA#8 :: 0x55#8 :: c :: BitVec.ofNat 8 payload.length :: (payload ++ [csum c payload, 0x0D#8, 0x0A#8]) := rfl

/-- R100: what stands in a frame after its payload. -/
theorem byteAt_frameBytes_after (c : Byte) (payload : List Byte) (k : Nat) :
    byteAt (frameBytes c payload) (4 + k + payload.length) = byteAt [csum c payload, 0x0D#8, 0x0A#8] k := by
  rw [frameBytes_eq, (by omega : 4 + k + payload.length = payload.length + k + 1 + 1 + 1 + 1)]
  simp [byteAt, List.getElem?_append_right]

/-- R100: the payload of a frame. -/
theorem slice_frameBytes (c : Byte) (payload : List Byte) :
    slice (frameBytes c payload) 4 (4 + payload.length) = payload := by
  simp [frameBytes_eq, slice]

/-- R197: the bytes of a frame decode to its code and payload. -/
theorem decodeFrame_frameBytes (c : Byte) {payload : List Byte} (h : payload.length ≤ 255) :
    decodeFrame (frameBytes c payload) = .ok (c, payload) := by
  have hlen : (byteAt (frameBytes c payload) 3).toNat = payload.length := by
    show (BitVec.ofNat 8 payload.length).toNat = payload.length
    rw [BitVec.toNat_ofNat]
    omega
  have hcode : byteAt (frameBytes c payload) 2 = c := rfl
  have hcsum : byteAt (frameBytes c payload) (4 + payload.length) = csum c payload :=
    byteAt_frameBytes_after c payload 0
  have htail : byteAt (frameBytes c payload) (5 + payload.length) = 0x0D#8 ∧
      byteAt (frameBytes c payload) (6 + payload.length) = 0x0A#8 :=
    ⟨byteAt_frameBytes_after c payload 1, byteAt_frameBytes_after c payload 2⟩
  have hheader : byteAt (frameBytes c payload) 0 = 0xAA#8 ∧ byteAt (frameBytes c payload) 1 = 0x55#8 := ⟨rfl, rfl⟩
  simp [decodeFrame, hlen, hcode, hcsum, htail, hheader, slice_frameBytes]

/-- R100, R103: bytes that decode to a code and payload are their frame. -/
theorem decodeFrame_ok {b : List Byte} {c : Byte} {payload : List Byte} (h : decodeFrame b = .ok (c, payload)) :
    payload.length ≤ 255 ∧ frameBytes c payload = b := by
  simp only [decodeFrame] at h
  split_ifs at h with hshort hheader hlength htail hcsum
  cases h
  rw [not_not] at hlength hcsum
  rw [not_or, not_not, not_not] at hheader htail
  obtain ⟨hlen, htake⟩ := frameBytes_of_checks hlength.ge hheader.1 hheader.2 rfl hcsum htail.1 htail.2
  have hbyte := (byteAt b 3).isLt
  exact ⟨by omega, by rw [← htake, ← hlength, List.take_length]⟩

/-! ## Frames on a line -/

/-- R105: a row on a receive line is the one that its code names, where the response codes differ and the code of
FRAME_OTHER is none of them. -/
theorem rxFrameInstr_of_rxParts {pr : Params} {i : Instr} {p : Nat} {c : Byte} {payload : List Byte}
    (hpr : pr.code.responses.Nodup) (hi : i.wf pr = true) (h : rxParts pr.code i = some (p, c, payload)) :
    rxFrameInstr pr.code p c payload = i := by
  rw [← List.nodup_reverse] at hpr
  simp only [Codes.responses, List.reverse_cons, List.reverse_nil, List.nil_append, List.cons_append, List.nodup_cons,
    List.mem_cons, List.not_mem_nil, or_false, not_or] at hpr
  cases i with
  | frameAck | frameNack | framePingAck | frameReturnConfig | frameReturnStatus | frameSack | frameError =>
    cases h
    simp [rxFrameInstr, hpr]
  | frameOther q c pl =>
    cases h
    have hother : ¬ c ∈ pr.code.responses := by simp [Instr.wf] at hi; simpa using hi.2
    simp only [Codes.responses, List.mem_cons, List.not_mem_nil, or_false, not_or] at hother
    simp [rxFrameInstr, hother]
  | _ => cases h

/-- R104, R110-R114: a well-formed row on a transmit line is the one that its code names, its payload its schema's. -/
theorem txFrameInstr_of_txParts {pr : Params} {i : Instr} {p : Nat} {c : Byte} {payload : List Byte}
    (hpr : pr.code.commands.Nodup) (hi : i.wf pr = true) (h : txParts pr.code i = some (p, c, payload)) :
    txFrameInstr pr p c payload = .ok i := by
  rw [← List.nodup_reverse] at hpr
  simp only [Codes.commands, List.reverse_cons, List.reverse_nil, List.nil_append, List.cons_append, List.nodup_cons,
    List.mem_cons, List.not_mem_nil, or_false, not_or] at hpr
  cases i with
  | frameEnableDisable | framePing | frameGetConfig | frameGetStatus | frameSetStimulation | frameSetPhases =>
    cases h
    simp only [Instr.wf, Bool.and_eq_true] at hi
    simp [txFrameInstr, hpr, hi]
  | _ => cases h

theorem length_of_stimPayloadOk {c : StimCodes} {payload : List Byte} (h : stimPayloadOk c payload = true) :
    payload.length ≤ 37 := by
  cases payload with
  | nil => exact Nat.zero_le _
  | cons b bs =>
    simp only [stimPayloadOk, Bool.or_eq_true, Bool.and_eq_true, beq_iff_eq] at h
    omega

/-- R110-R114: no schema has more bytes than a frame carries. -/
theorem length_of_txParts {pr : Params} {i : Instr} {p : Nat} {c : Byte} {payload : List Byte}
    (hi : i.wf pr = true) (h : txParts pr.code i = some (p, c, payload)) : payload.length ≤ 255 := by
  cases i with
  | frameEnableDisable =>
    cases h
    simp only [Instr.wf, Bool.and_eq_true, enablePayloadOk, Bool.or_eq_true, beq_iff_eq] at hi
    rcases hi.2 with rfl | rfl <;> decide
  | framePing | frameGetConfig | frameGetStatus | frameSetPhases =>
    cases h
    simp only [Instr.wf, pingPayloadOk, emptyPayloadOk, phasesPayloadOk, Bool.and_eq_true, beq_iff_eq,
      decide_eq_true_eq] at hi
    omega
  | frameSetStimulation =>
    cases h
    simp only [Instr.wf, Bool.and_eq_true] at hi
    exact Nat.le_trans (length_of_stimPayloadOk hi.2) (by decide)
  | _ => cases h

theorem length_of_rxParts {pr : Params} {i : Instr} {p : Nat} {c : Byte} {payload : List Byte}
    (hi : i.wf pr = true) (h : rxParts pr.code i = some (p, c, payload)) : payload.length ≤ 255 := by
  cases i with
  | frameAck | frameNack | framePingAck | frameReturnConfig | frameReturnStatus | frameSack | frameError
  | frameOther =>
    cases h
    simp only [Instr.wf, Bool.and_eq_true, decide_eq_true_eq] at hi
    omega
  | _ => cases h

/-- R120: the number of operands of a well-formed request has 16 bits. -/
theorem length_of_requestParts {pr : Params} {i : Instr} {op : Byte} {ops : List Byte} (hi : i.wf pr = true)
    (h : requestParts i = some (op, ops)) : ops.length ≤ 65535 := by
  cases i <;> cases h <;> exact of_decide_eq_true hi

/-! ## The next input -/

/-- R120: the descriptor of a well-formed request row decodes to the row. -/
theorem decodeInput_request_of_parts {pr : Params} {i : Instr} {op : Byte} {ops : List Byte} (hi : i.wf pr = true)
    (h : requestParts i = some (op, ops)) : decodeInput pr (.request (descriptorBytes op ops)) = .instr i := by
  simp only [decodeInput, decodeRequest_descriptorBytes op (length_of_requestParts hi h),
    requestInstr_of_requestParts h]

/-- R105, R106: the frame of a well-formed response row decodes, on the row's line, to the row. -/
theorem decodeInput_rx_of_parts {pr : Params} {i : Instr} {p : Nat} {c : Byte} {payload : List Byte} (hpr : pr.wf)
    (hi : i.wf pr = true) (h : rxParts pr.code i = some (p, c, payload)) :
    decodeInput pr (.rx p (frameBytes c payload)) = .instr i := by
  obtain ⟨-, -, -, -, -, -, hresponses, -⟩ := hpr
  simp only [decodeInput, decodeRx, decodeFrame_frameBytes c (length_of_rxParts hi h),
    rxFrameInstr_of_rxParts hresponses hi h]

/-- R5: the input that names an agent's own step is that step. -/
theorem decodeInput_agentInput {pr : Params} {i : Instr} {x : Input} (h : agentInput i = some x) :
    decodeInput pr x = .instr i := by
  cases i with
  | requestEngineSteps k => cases k <;> cases h <;> rfl
  | _ => cases h <;> rfl

/-- What the encoding of an instruction can be: a register access, a descriptor, a frame on a receive line, or an
agent's own step. -/
theorem encode_cases {pr : Params} {i : Instr} {x : Input} (h : encode pr i = some x) :
    (∃ off, i = .regRead off ∧ x = .bus false off 0) ∨ (∃ off v, i = .regWrite off v ∧ x = .bus true off v) ∨
    (∃ op ops, requestParts i = some (op, ops) ∧ x = .request (descriptorBytes op ops)) ∨
    (∃ p c payload, rxParts pr.code i = some (p, c, payload) ∧ x = .rx p (frameBytes c payload)) ∨
    agentInput i = some x := by
  unfold encode at h
  split at h
  · cases h; exact .inl ⟨_, rfl, rfl⟩
  · cases h; exact .inr (.inl ⟨_, _, rfl, rfl⟩)
  · split at h
    · cases h; exact .inr (.inr (.inl ⟨_, _, ‹_›, rfl⟩))
    · split at h
      · cases h; exact .inr (.inr (.inr (.inl ⟨_, _, _, ‹_›, rfl⟩)))
      · exact .inr (.inr (.inr (.inr h)))

/-! ## The checksum and the bytes of a payload -/

/-- Replacing one byte moves the sum by the difference of the two. -/
theorem sumBytes_set {payload : List Byte} {i : Nat} (hi : i < payload.length) (b : Byte) :
    sumBytes (payload.set i b) + (byteAt payload i).toNat = sumBytes payload + b.toNat := by
  rw [List.set_eq_modify]
  exact sum_map_modify (fun _ => b) BitVec.toNat 0 payload i hi

/-- R103: two checksums agree just when their sums do modulo 256. -/
theorem csum_eq_iff {c c' : Byte} {payload payload' : List Byte} : csum c payload = csum c' payload' ↔
    (c.toNat + payload.length + sumBytes payload) % 256 = (c'.toNat + payload'.length + sumBytes payload') % 256 := by
  rw [csum, csum, ← BitVec.toNat_inj, BitVec.toNat_ofNat, BitVec.toNat_ofNat]

end Sys2Proof.Machine

section
open Sys2Proof Sys2Proof.Machine

/-- Settles O1: each of the forms an encoding can take decodes to the row it came from. -/
theorem decodeOfEncodeIsTheInstruction : Obligations.DecodeOfEncodeIsTheInstruction := by
  intro pr i x hpr hi h
  rcases encode_cases h with ⟨off, rfl, rfl⟩ | ⟨off, v, rfl, rfl⟩ | ⟨op, ops, hparts, rfl⟩ |
    ⟨p, c, payload, hparts, rfl⟩ | hagent
  · rfl
  · rfl
  · exact decodeInput_request_of_parts hi hparts
  · exact decodeInput_rx_of_parts hpr hi hparts
  · exact decodeInput_agentInput hagent

/-- Settles O2: the frame decodes to its code and payload, and these to the row. -/
theorem decodeOfCommandFrameBytes : Obligations.DecodeOfCommandFrameBytes := by
  intro pr i p b hpr hi h
  obtain ⟨-, -, -, -, -, hcommands, -⟩ := hpr
  unfold encodeTx at h
  split at h
  · rename_i q c payload hparts
    cases h
    rw [decodeTx, decodeFrame_frameBytes c (length_of_txParts hi hparts)]
    exact txFrameInstr_of_txParts hcommands hi hparts
  · cases h

/-- Settles O3: a descriptor's length bytes and a frame's checked bytes are determined by what they decode to. -/
theorem decodedBytesAreTheirEncoding : Obligations.DecodedBytesAreTheirEncoding :=
  ⟨fun _ _ => decodeRequest_ok, fun _ _ _ => decodeFrame_ok⟩

/-- Settles O16: the sums differ by less than 256, and by something. -/
theorem checksumDetectsOneByte : Obligations.ChecksumDetectsOneByte := by
  refine fun c payload => ⟨fun c' hc hsum => ?_, fun i b hi hb hsum => ?_⟩ <;> rw [csum_eq_iff] at hsum
  · have hlt := c.isLt
    have hlt' := c'.isLt
    exact hc (BitVec.eq_of_toNat_eq (by omega))
  · have hset := sumBytes_set hi b
    have hlt := b.isLt
    have hlt' := (byteAt payload i).isLt
    rw [List.length_set] at hsum
    exact hb (BitVec.eq_of_toNat_eq (by omega))

/-- Settles O4: the words are closed, and the decoder runs on them. -/
theorem wordsOfTheRowsDecode : Obligations.WordsOfTheRowsDecode := by
  unfold Obligations.WordsOfTheRowsDecode
  decide

end

/-! # Register writes, stimulation payloads, event records (30_encoding.md R110, R117, R130-R141, R144, R145) -/

namespace Sys2Proof.Machine

/-! ## Register writes -/

/-- R142, R75: REG_WRITE answers the state with the register written. -/
theorem exec_regWrite (off : Byte) (v : Word) (s : State) :
    exec (.regWrite off v) s = .next ((writeReg off v s).setRet .unit) := rfl

/-- R144: what no row of the register map names reads 0. -/
theorem readReg_unmapped {off : Byte} (h : (0x58 ≤ off.toNat ∧ off.toNat < 0x60) ∨ 0x88 ≤ off.toNat) (s : State) :
    readReg off s = 0 := by
  have hconfig : ¬ regIndex off < 0x16 := by unfold regIndex; omega
  have hstatus : ¬ (0x18 ≤ regIndex off ∧ regIndex off < 0x22) := by unfold regIndex; omega
  unfold readReg
  split
  case h_17 => rw [if_neg hconfig, if_neg hstatus]
  all_goals omega

/-- R144: a write below BAUD, or past PROBE_TO, changes nothing. -/
theorem writeReg_not_writable {off : Byte} (h : off.toNat < 0x04 ∨ 0x14 ≤ off.toNat) (v : Word) (s : State) :
    writeReg off v s = s := by
  have hk : regIndex off < 1 ∨ 5 ≤ regIndex off := by unfold regIndex; omega
  unfold writeReg
  split
  case h_5 => rfl
  all_goals omega

/-- R74: bits [1:0] of the offset do not matter to a write. -/
theorem writeReg_of_aligned {off : Byte} {a : Nat} (h : off.toNat / 4 * 4 = a) (v : Word) (s : State) :
    writeReg off v s = writeReg (BitVec.ofNat 8 a) v s := by
  unfold writeReg
  rw [regIndex_of_aligned h]

/-- R145: the four writable registers are read back as they were written. -/
theorem readReg_writeReg {off : Byte} (h : 0x04 ≤ off.toNat) (h' : off.toNat < 0x14) (v : Word) (s : State) :
    readReg off (writeReg off v s) = v := by
  have ha : off.toNat / 4 * 4 = 0x04 ∨ off.toNat / 4 * 4 = 0x08 ∨ off.toNat / 4 * 4 = 0x0C ∨
      off.toNat / 4 * 4 = 0x10 := by omega
  rcases ha with ha | ha | ha | ha <;> rw [readReg_of_aligned ha, writeReg_of_aligned ha] <;> rfl

/-! ## Stimulation payloads -/

/-- A slice to the end is what is left. -/
theorem slice_to_length {bytes : List Byte} {i n : Nat} (h : bytes.length = n) : slice bytes i n = bytes.drop i := by
  rw [slice, List.take_of_length_le (by simp [h])]

theorem length_slice {bytes : List Byte} {i j : Nat} (h : j ≤ bytes.length) : (slice bytes i j).length = j - i := by
  rw [slice, List.length_take, List.length_drop]
  omega

/-- Two slices that meet are one. -/
theorem slice_append_slice {bytes : List Byte} {i j k : Nat} (hij : i ≤ j) (hjk : j ≤ k) :
    slice bytes i j ++ slice bytes j k = slice bytes i k := by
  have hdrop : bytes.drop j = (bytes.drop i).drop (j - i) := by rw [List.drop_drop, Nat.add_sub_cancel' hij]
  rw [slice, slice, slice, hdrop, ← List.take_add]
  congr 1
  omega

/-- R117: a vec3 keeps its twelve bytes. -/
theorem length_xzy {ops : List Byte} {o : Nat} (h : o + 12 ≤ ops.length) : (xzy ops o).length = 12 := by
  rw [xzy, List.length_append, List.length_append, length_slice (by omega), length_slice (by omega),
    length_slice (by omega)]
  omega

/-! ## Event records -/

theorem record_eq (e : Event) : e.record =
    e.code :: BitVec.ofNat 8 e.data.length :: BitVec.ofNat 8 (e.data.length / 256) :: e.data := rfl

/-- R131: the high length byte of a record with less than 256 data bytes is 0. -/
theorem record_of_short {e : Event} (h : e.data.length < 256) :
    e.record = e.code :: BitVec.ofNat 8 e.data.length :: 0x00#8 :: e.data := by
  rw [record_eq, Nat.div_eq_of_lt h]

/-- R131: the two length bytes of a record read as the number of its data bytes. -/
theorem le16_record {e : Event} (h : e.data.length ≤ 65535) : le16 e.record 1 = e.data.length :=
  le16_bytesLe16 h

/-- R131: the event codes. -/
theorem code_bounds (e : Event) : 1 ≤ e.code.toNat ∧ e.code.toNat ≤ 10 := by
  cases e <;> simp [Event.code]

end Sys2Proof.Machine

section
open Sys2Proof Sys2Proof.Machine

/-- Settles O8, by the offset's place in the register map. -/
theorem unmappedAndReadOnlyOffsets : Obligations.UnmappedAndReadOnlyOffsets := by
  refine fun s off v => ⟨fun h => ?_, fun h => ?_⟩
  · rw [exec_regRead, readReg_unmapped h]
  · rw [exec_regWrite, writeReg_not_writable h]

/-- Settles O9: an access sees only the aligned offset, and there are four of them. -/
theorem writableRegistersStoreEveryValue : Obligations.WritableRegistersStoreEveryValue := by
  refine fun s off v => ⟨fun h => ?_, fun h => ?_, fun h => ?_, fun h => ?_, fun h h' => ⟨_, exec_regWrite off v s, ?_⟩⟩
  · rw [exec_regWrite, writeReg_of_aligned h]; rfl
  · rw [exec_regWrite, writeReg_of_aligned h]; rfl
  · rw [exec_regWrite, writeReg_of_aligned h]; rfl
  · rw [exec_regWrite, writeReg_of_aligned h]; rfl
  · have hread : readReg off ((writeReg off v s).setRet .unit) = readReg off (writeReg off v s) := rfl
    rw [exec_regRead, hread, readReg_writeReg h h']

/-- Settles O48: the layout of each variant, and its length from those of its parts. -/
theorem stimulationPayloadLayout : Obligations.StimulationPayloadLayout := by
  refine fun codes ops => ⟨fun h0 hl => ?_, fun h0 hl => ?_, fun h0 hl => ?_⟩
  · have he : stimPayload codes ops = codes.point :: (xzy ops 1 ++ slice ops 13 21) := by
      rw [stimPayload, h0]; rfl
    refine ⟨?_, ?_⟩
    · rw [he, slice_to_length hl, xzy]
    · simp [he, length_xzy, length_slice, hl]
  · have he : stimPayload codes ops = (if byteAt ops 0 = 1 then codes.vibration else codes.linear) ::
        (xzy ops 1 ++ xzy ops 13 ++ slice ops 25 33) := by
      rcases h0 with h0 | h0 <;> rw [stimPayload, h0] <;> rfl
    refine ⟨?_, ?_⟩
    · rw [he, slice_to_length hl]
      simp only [xzy, List.append_assoc]
    · simp [he, length_xzy, length_slice, hl]
  · have he : stimPayload codes ops = codes.circular :: (xzy ops 1 ++ xzy ops 13 ++ slice ops 25 37) := by
      rw [stimPayload, h0, ← slice_append_slice (i := 25) (j := 29) (k := 37) (by decide) (by decide),
        ← List.append_assoc]
      rfl
    refine ⟨?_, ?_⟩
    · rw [he, slice_to_length hl]
      simp only [xzy, List.append_assoc]
    · simp [he, length_xzy, length_slice, hl]

/-- Settles O60: the common form of a record, then each record's code, length and data. -/
theorem eventRecordBytes : Obligations.EventRecordBytes := by
  have hone {e : Event} {b : Byte} (h : e.data = [b]) : e.record = [e.code, 0x01#8, 0x00#8, b] := by
    rw [record_of_short (by simp [h]), h]; rfl
  have htwo {e : Event} {b b' : Byte} (h : e.data = [b, b']) : e.record = [e.code, 0x02#8, 0x00#8, b, b'] := by
    rw [record_of_short (by simp [h]), h]; rfl
  refine ⟨fun e he => ⟨_, _, _, record_eq e, le16_record he, code_bounds e⟩, fun p => hone rfl, fun r b h => ?_,
    fun cfg h => ?_, fun sts h => ?_, fun ops h => ?_, fun e => hone rfl, fun raw h => ?_, fun k b h => ?_,
    fun c l => htwo rfl, fun op r b h => ?_⟩
  · simp only [List.mem_cons, List.not_mem_nil, Prod.mk.injEq, or_false] at h
    rcases h with ⟨rfl, rfl⟩ | ⟨rfl, rfl⟩ | ⟨rfl, rfl⟩ | ⟨rfl, rfl⟩ | ⟨rfl, rfl⟩ | ⟨rfl, rfl⟩ <;> exact hone rfl
  · rw [record_of_short (by rw [Event.data, h]; decide), Event.data, h]; rfl
  · rw [record_of_short (by rw [Event.data, h]; decide), Event.data, h]; rfl
  · rw [record_of_short (e := .stimulationSent ops) (Nat.lt_succ_of_le h)]; rfl
  · by_cases hlong : raw.length < 256
    · rw [if_pos hlong, record_of_short (e := .frameReceived raw) hlong]; rfl
    · rw [if_neg hlong, record_eq, Event.data, (by omega : raw.length / 256 = 1)]; rfl
  · simp only [List.mem_cons, List.not_mem_nil, Prod.mk.injEq, or_false] at h
    rcases h with ⟨rfl, rfl⟩ | ⟨rfl, rfl⟩ | ⟨rfl, rfl⟩ <;> exact hone rfl
  · simp only [List.mem_cons, List.not_mem_nil, Prod.mk.injEq, or_false] at h
    rcases h with ⟨rfl, rfl⟩ | ⟨rfl, rfl⟩ | ⟨rfl, rfl⟩ | ⟨rfl, rfl⟩ | ⟨rfl, rfl⟩ | ⟨rfl, rfl⟩ | ⟨rfl, rfl⟩ |
      ⟨rfl, rfl⟩ | ⟨rfl, rfl⟩ <;> exact htwo rfl

end

/-! # The ring buffer (40_ringbuffer.md R150-R159) -/

namespace Sys2Proof.Machine

/-! ## The meanings of the six rows -/

section
variable (p : Nat)

/-- R151: RB_WRITE replaces the lane's buffer by what Write leaves, and counts a clear (R39). -/
theorem exec_rbWrite (data : List Byte) (s : State) :
    exec (.rbWrite p data) s = .next ((rbWrite p data s).setRet .unit) := rfl

theorem exec_rbPeek (n : Nat) (s : State) :
    exec (.rbPeek p n) s = .next (s.setRet (.bytes ((s.lane p).rb.peek s.params.rbCap n))) := rfl

theorem exec_rbPeekByte (i : Nat) (s : State) :
    exec (.rbPeekByte p i) s = .next (s.setRet (.byte ((s.lane p).rb.peekByte s.params.rbCap i))) := rfl

theorem exec_rbRead (n : Nat) (s : State) : exec (.rbRead p n) s =
    .next ((s.setRb p ((s.lane p).rb.read s.params.rbCap n).1).setRet
      (.bytes ((s.lane p).rb.read s.params.rbCap n).2)) := rfl

theorem exec_rbSkip (n : Nat) (s : State) :
    exec (.rbSkip p n) s = .next ((s.setRb p ((s.lane p).rb.skip s.params.rbCap n)).setRet .unit) := rfl

theorem exec_rbClear (s : State) : exec (.rbClear p) s = .next ((s.setRb p (s.lane p).rb.clear).setRet .unit) := rfl

end

/-! ## What Write leaves of the cursor and of the storage -/

section
variable {cap : Nat} {b : RingBuf} {pol : OvfPolicy} {data : List Byte}

/-- R151: a chunk that fits is appended, with no clear. -/
theorem RingBuf.write_of_fits (hfit : data.length ≤ cap - b.count) :
    b.write cap pol data = (b.append cap data, false) :=
  if_neg (Nat.not_lt.2 hfit)

/-- R151: an overflowing Write that drops its chunk is a clear. -/
theorem RingBuf.write_of_dropped (hov : cap - b.count < data.length)
    (hdrop : pol = .clearAndDrop ∨ cap < data.length) : b.write cap pol data = (b.clear, true) := by
  rw [RingBuf.write, if_pos hov, if_pos hdrop]

/-- R151: an overflowing Write that keeps its chunk appends it to the cleared buffer. -/
theorem RingBuf.write_of_kept (hov : cap - b.count < data.length)
    (hkeep : ¬ (pol = .clearAndDrop ∨ cap < data.length)) :
    b.write cap pol data = (b.clear.append cap data, true) := by
  rw [RingBuf.write, if_pos hov, if_neg hkeep]

/-- A fitting Write leaves the read cursor and every storage byte outside the `k` from the write cursor on. -/
theorem RingBuf.write_frame_of_fits (h : b.wf cap) (hfit : data.length ≤ cap - b.count) :
    (b.write cap pol data).1.r = b.r ∧
    ∀ a, (∀ i, i < data.length → a ≠ (b.w + i) % cap) → (b.write cap pol data).1.mem.read a = b.mem.read a := by
  have hle := h.1
  obtain ⟨-, -, hr, -, hmem⟩ := RingBuf.append_spec h data (by omega)
  rw [RingBuf.write_of_fits hfit]
  exact ⟨hr, hmem⟩

/-- An overflowing Write starts again at address 0 and leaves every storage byte past the chunk it keeps, if any. -/
theorem RingBuf.write_frame_of_overflow (h : b.wf cap) (hov : cap - b.count < data.length) :
    (b.write cap pol data).1.r = 0 ∧
    ∀ a, (if pol = .clearAndDrop ∨ cap < data.length then 0 else data.length) ≤ a →
      (b.write cap pol data).1.mem.read a = b.mem.read a := by
  by_cases hdrop : pol = .clearAndDrop ∨ cap < data.length
  · rw [RingBuf.write_of_dropped hov hdrop]
    exact ⟨rfl, fun _ _ => rfl⟩
  · have hlen : data.length ≤ cap := Nat.not_lt.1 (not_or.1 hdrop).2
    obtain ⟨-, -, hr, -, hmem⟩ := RingBuf.append_spec (RingBuf.wf_clear h) data (by simpa using hlen)
    rw [RingBuf.write_of_kept hov hdrop, if_neg hdrop]
    refine ⟨hr, fun a ha => hmem a fun i hi => ?_⟩
    rw [RingBuf.clear_w, Nat.zero_add, Nat.mod_eq_of_lt (by omega)]
    omega

end

/-! ## A Write to a lane's buffer -/

section
variable (p : Nat) (data : List Byte) (s : State)

/-- R151: a Write leaves every other lane as before. -/
theorem lane_rbWrite_ne {q : Nat} (h : q ≠ p) : (rbWrite p data s).lane q = s.lane q := by
  rw [rbWrite_eq, State.lane_setDiag, State.lane_setRb_ne s _ h]

theorem lane_rbWrite_same (h : p < s.lanes.length) : (rbWrite p data s).lane p =
    { s.lane p with rb := ((s.lane p).rb.write s.params.rbCap s.params.ovfPolicy data).1 } := by
  rw [rbWrite_eq, State.lane_setDiag, State.lane_setRb_same s _ h]

/-- R39: the counter counts the clearing Writes. -/
theorem rbWrite_diag : (rbWrite p data s).diag =
    if ((s.lane p).rb.write s.params.rbCap s.params.ovfPolicy data).2 then s.diag.addOvfClear else s.diag := by
  rw [rbWrite_eq, State.setDiag_diag]

/-- A Write changes the lanes and the counters alone, and not how many lanes there are. -/
theorem rbWrite_frame :
    rbWrite p data s = { s with lanes := (rbWrite p data s).lanes, diag := (rbWrite p data s).diag } ∧
    (rbWrite p data s).lanes.length = s.lanes.length := by
  rw [rbWrite_eq]
  exact ⟨rfl, List.length_modify ..⟩

end

/-! ## Runs of Writes and of Reads -/

section
variable {cap : Nat}

theorem RingBuf.skip_count (n : Nat) (b : RingBuf) : (b.skip cap n).count = b.count - n := by
  show b.count - min n b.count = b.count - n
  omega

/-- R157: Writes that do not overflow append their chunks in order. -/
theorem RingBuf.content_foldl_write (pol : OvfPolicy) (ds : List (List Byte)) : ∀ {b : RingBuf}, b.wf cap →
    b.count + ds.flatten.length ≤ cap →
    (ds.foldl (fun x d => (x.write cap pol d).1) b).content cap = b.content cap ++ ds.flatten := by
  induction ds with
  | nil => exact fun _ _ => (List.append_nil _).symm
  | cons d ds ih =>
    intro b h hfit
    rw [List.flatten_cons, List.length_append] at hfit
    obtain ⟨hwf, hfits, -⟩ := RingBuf.write_spec h pol d
    obtain ⟨-, hcontent⟩ := hfits (by omega)
    have hcount : (b.write cap pol d).1.count = b.count + d.length := by
      rw [← RingBuf.length_content cap, hcontent, List.length_append, RingBuf.length_content]
    rw [List.foldl_cons, ih hwf (by omega), hcontent, List.flatten_cons, List.append_assoc]

/-- R157: Reads one after the other return what one Read of their total length would. -/
theorem readSeq_eq_take (ns : List Nat) : ∀ b : RingBuf, readSeq cap ns b = (b.content cap).take ns.sum := by
  induction ns with
  | nil => exact fun _ => rfl
  | cons n ns ih =>
    intro b
    rw [readSeq, RingBuf.read_eq, ih, RingBuf.content_skip, List.sum_cons, List.take_add]

end

end Sys2Proof.Machine

section
open Sys2Proof Sys2Proof.Machine

/-- Settles O11: the frame of the state, then what the buffer's Write does when its chunk fits and when it overflows. -/
theorem ringBufferWrite : Obligations.RingBufferWrite := by
  intro s p data hp hwf
  obtain ⟨hwf', hfits, hover⟩ := RingBuf.write_spec hwf s.params.ovfPolicy data
  obtain ⟨hframe, hlanes⟩ := rbWrite_frame p data s
  have hlane := lane_rbWrite_same p data s hp
  have hrb : ((rbWrite p data s).lane p).rb = ((s.lane p).rb.write s.params.rbCap s.params.ovfPolicy data).1 := by
    rw [hlane]
  refine ⟨_, exec_rbWrite p data s, congrArg (State.setRet · .unit) hframe, hlanes,
    fun q hq => lane_rbWrite_ne p data s hq, ?_⟩
  simp only [State.lane_setRet, State.setRet_diag, rbWrite_diag, hrb]
  refine ⟨hlane, hwf', fun hfit => ?_, fun hov => ?_⟩
  · obtain ⟨hflag, hcontent⟩ := hfits hfit
    exact ⟨hcontent, by rw [hflag]; rfl, RingBuf.write_frame_of_fits hwf hfit⟩
  · obtain ⟨hflag, hcontent⟩ := hover hov
    exact ⟨hcontent, by rw [hflag]; rfl, RingBuf.write_frame_of_overflow hwf hov⟩

/-- Settles O12: the writes append in order, and the reads take from the front as many bytes as there are. -/
theorem ringBufferIsFifo : Obligations.RingBufferIsFifo := by
  intro cap pol b ds ns hwf hfit hsum
  have hcontent := RingBuf.content_foldl_write pol ds hwf hfit
  refine ⟨hcontent, ?_⟩
  rw [readSeq_eq_take, hcontent, hsum, List.take_of_length_le (by simp)]

/-- Settles O13, by the occupied bytes that each returns. -/
theorem peekReturnsWithoutConsuming : Obligations.PeekReturnsWithoutConsuming := by
  intro s p n
  rw [exec_rbPeek, exec_rbPeekByte, RingBuf.peek_eq, RingBuf.peekByte_eq]
  exact ⟨rfl, rfl⟩

/-- Settles O14: Read and Skip leave the same buffer (R158), the skipped one. -/
theorem readSkipAndClear : Obligations.ReadSkipAndClear := by
  intro s p n _
  refine ⟨(s.lane p).rb.skip s.params.rbCap n, RingBuf.content_skip _ n _, rfl, rfl, RingBuf.skip_count n _, rfl, ?_,
    exec_rbSkip p n s, exec_rbClear p s⟩
  rw [exec_rbRead, RingBuf.read_eq]
  rfl

end

/-! # The frame codec and the parser (41_framecodec.md R180-R201) -/

namespace Sys2Proof.Machine

/-! ## The meanings of the rows -/

theorem exec_csum (c : Byte) (payload : List Byte) (s : State) :
    exec (.csum c payload) s = .next (s.setRet (.byte (csum c payload))) := rfl

/-- R182: ENCODE answers REFUSED past 255 bytes. -/
theorem exec_encodeFrame (c : Byte) (payload : List Byte) (s : State) : exec (.encodeFrame c payload) s =
    .next (s.setRet (if 255 < payload.length then .encodeRefused else .bytes (frameBytes c payload))) := by
  show execEncodeFrame c payload s = _
  rw [execEncodeFrame, encodeFrame]
  by_cases h : 255 < payload.length
  · rw [if_pos h, if_pos h]
    rfl
  · rw [if_neg h, if_neg h]
    rfl

theorem exec_sendFrame (p : Nat) (c : Byte) (payload : List Byte) (o : Owner) (s : State) :
    exec (.sendFrame p c payload o) s =
      .next ((sendFrame p c payload o s).1.setRet (.send (sendFrame p c payload o s).2)) := rfl

theorem exec_parseAll (p : Nat) (s : State) :
    exec (.parseAll p) s = .next ((parseAll p s).1.setRet (.frames (parseAll p s).2)) := rfl

/-- What an instruction before it returned does not matter to a pass. -/
theorem exec_parseAll_setRet (p : Nat) (s : State) (r : Ret) :
    exec (.parseAll p) (s.setRet r) = exec (.parseAll p) s := rfl

/-! ## The checksum -/

@[simp] theorem csum_nil (c : Byte) : csum c [] = c := by
  rw [csum, sumBytes, List.map_nil, List.sum_nil, List.length_nil, Nat.add_zero, Nat.add_zero, BitVec.ofNat_toNat,
    BitVec.setWidth_eq]

/-- R180: the order of the payload bytes does not show in the checksum. -/
theorem csum_of_perm (c : Byte) {payload q : List Byte} (h : payload.Perm q) : csum c q = csum c payload := by
  rw [csum, csum, sumBytes, sumBytes, h.length_eq, (h.map BitVec.toNat).sum_eq]

/-! ## The bytes of a frame -/

theorem byteAt_append_left {x : List Byte} {i : Nat} (h : i < x.length) (r : List Byte) :
    byteAt (x ++ r) i = byteAt x i :=
  List.getD_append x r 0 i h

/-- R102: the length byte of a frame reads as the length of its payload. -/
theorem length_byte_frameBytes (c : Byte) {payload : List Byte} (h : payload.length ≤ 255) :
    (byteAt (frameBytes c payload) 3).toNat = payload.length := by
  show (BitVec.ofNat 8 payload.length).toNat = payload.length
  rw [BitVec.toNat_ofNat, Nat.mod_eq_of_lt (by omega)]

theorem RingBuf.peekByte_eq_byteAt (cap i : Nat) (b : RingBuf) : b.peekByte cap i = byteAt (b.content cap) i :=
  RingBuf.peekByte_eq cap i b

/-! ## One iteration, in terms of the occupied bytes -/

/-- R186, R188, R189: the occupied bytes `x` give the parser a reason to discard their first byte, and counting that
takes the counters from `d` to `d'`. -/
def Discards (x : List Byte) (d d' : Diag) : Prop :=
  let len := (byteAt x 3).toNat
  let header := byteAt x 0 = 0xAA#8 ∧ byteAt x 1 = 0x55#8
  let tail := byteAt x (5 + len) = 0x0D#8 ∧ byteAt x (6 + len) = 0x0A#8
  (7 ≤ x.length ∧ ¬ header ∧ d' = d.addHdrSlip) ∨
  (7 + len ≤ x.length ∧ header ∧ ¬ tail ∧ d' = d.addTailFail) ∨
  (7 + len ≤ x.length ∧ header ∧ tail ∧ byteAt x (4 + len) ≠ csum (byteAt x 2) (slice x 4 (4 + len)) ∧
    d' = d.addCsumFail)

section
variable {cap : Nat} {b b' : RingBuf} {d d' : Diag} {out : List Frame}

theorem parseOnce_of_discards (h : Discards (b.content cap) d d') :
    parseOnce cap b d = some (b.skip cap 1, d', []) := by
  simp only [Discards, RingBuf.length_content] at h
  simp only [parseOnce, RingBuf.peekByte_eq_byteAt]
  rcases h with ⟨hlen, hheader, rfl⟩ | ⟨hlen, hheader, htail, rfl⟩ | ⟨hlen, hheader, htail, hsum, rfl⟩
  · rw [if_neg (by omega), if_pos (not_and_or.1 hheader)]
  · rw [if_neg (by omega), if_neg (by simp [hheader]), if_neg (by omega), if_pos (not_and_or.1 htail)]
  · rw [if_neg (by omega), if_neg (by simp [hheader]), if_neg (by omega), if_neg (by simp [htail]),
      candidatePayload_eq (by omega), if_pos hsum]

/-- R190: a whole frame at the front is emitted and consumed. -/
theorem parseOnce_of_frame {c : Byte} {payload : List Byte} (hp : payload.length ≤ 255)
    (h : b.content cap = frameBytes c payload) : parseOnce cap b d =
      some (b.skip cap (7 + payload.length), d.addFrameOk, [⟨c, payload, frameBytes c payload⟩]) := by
  have hcount : b.count = 7 + payload.length := by
    rw [← RingBuf.length_content cap, h, length_frameBytes]
  have hsum : byteAt (frameBytes c payload) (4 + payload.length) = csum c payload :=
    byteAt_frameBytes_after c payload 0
  have htail : byteAt (frameBytes c payload) (5 + payload.length) = 0x0D#8 ∧
      byteAt (frameBytes c payload) (6 + payload.length) = 0x0A#8 :=
    ⟨byteAt_frameBytes_after c payload 1, byteAt_frameBytes_after c payload 2⟩
  have hheader : byteAt (frameBytes c payload) 0 = 0xAA#8 ∧ byteAt (frameBytes c payload) 1 = 0x55#8 ∧
      byteAt (frameBytes c payload) 2 = c := ⟨rfl, rfl, rfl⟩
  have hread : b.read cap (7 + payload.length) = (b.skip cap (7 + payload.length), frameBytes c payload) := by
    rw [RingBuf.read_eq, h, List.take_of_length_le (by rw [length_frameBytes])]
  simp [parseOnce, RingBuf.peekByte_eq_byteAt, h, hcount, length_byte_frameBytes c hp, hsum, htail, hheader, hread,
    candidatePayload_eq (cap := cap) (b := b) (len := payload.length) (by omega), slice_frameBytes]

theorem parseOnce_count_lt (h : parseOnce cap b d = some (b', d', out)) : b'.count < b.count := by
  rcases parseOnce_some h with ⟨-, hlen, rfl, -⟩ | ⟨f, -, -, hlen, -, rfl, -⟩ <;> rw [RingBuf.skip_count] <;> omega

theorem parseOnce_of_empty (h : b.count = 0) : parseOnce cap b d = none :=
  parseOnce_none.2 (.inl (by omega))

end

/-! ## A pass -/

/-- What a pass makes of a buffer and the counters, with the frames it emits: the loop of `parseAll`. -/
def parsed (cap : Nat) (b : RingBuf) (d : Diag) : RingBuf × Diag × List Frame := parseLoop cap b.count b d

section
variable {cap : Nat} {b b' : RingBuf} {d d' : Diag} {out : List Frame}

theorem parseLoop_of_none (h : parseOnce cap b d = none) (n : Nat) : parseLoop cap n b d = (b, d, []) := by
  cases n with
  | zero => rfl
  | succ n => rw [parseLoop, h]

theorem parseLoop_of_some (h : parseOnce cap b d = some (b', d', out)) (n : Nat) : parseLoop cap (n + 1) b d =
    ((parseLoop cap n b' d').1, (parseLoop cap n b' d').2.1, out ++ (parseLoop cap n b' d').2.2) := by
  rw [parseLoop, h]

/-- R194: as many iterations as there are bytes are enough; more change nothing. -/
theorem parseLoop_of_enough (n : Nat) : ∀ (m : Nat) (b : RingBuf) (d : Diag), b.count ≤ n → b.count ≤ m →
    parseLoop cap n b d = parseLoop cap m b d := by
  induction n with
  | zero =>
    intro m b d hn _
    have hstop : parseOnce cap b d = none := parseOnce_of_empty (by omega)
    rw [parseLoop_of_none hstop, parseLoop_of_none hstop]
  | succ n ih =>
    intro m b d hn hm
    cases hone : parseOnce cap b d with
    | none => rw [parseLoop_of_none hone, parseLoop_of_none hone]
    | some r =>
      have hlt := parseOnce_count_lt hone
      obtain ⟨m, rfl⟩ : ∃ k, m = k + 1 := ⟨m - 1, by omega⟩
      rw [parseLoop_of_some hone, parseLoop_of_some hone, ih m r.1 r.2.1 (by omega) (by omega)]

/-- R185, R187: where an iteration stops, the pass does nothing more. -/
theorem parsed_of_none (h : parseOnce cap b d = none) : parsed cap b d = (b, d, []) := parseLoop_of_none h _

/-- R184: a pass is an iteration and a pass over what that leaves. -/
theorem parsed_of_some (h : parseOnce cap b d = some (b', d', out)) : parsed cap b d =
    ((parsed cap b' d').1, (parsed cap b' d').2.1, out ++ (parsed cap b' d').2.2) := by
  have hlt := parseOnce_count_lt h
  obtain ⟨n, hn⟩ : ∃ k, b.count = k + 1 := ⟨b.count - 1, by omega⟩
  rw [parsed, hn, parseLoop_of_some h, parseLoop_of_enough n b'.count b' d' (by omega) (Nat.le_refl _)]
  rfl

/-- Induction along a pass: from what the iterations leave back to where they began. -/
theorem parsed_induction {P : RingBuf → Diag → Prop} (stop : ∀ b d, parseOnce cap b d = none → P b d)
    (go : ∀ b d b' d' out, parseOnce cap b d = some (b', d', out) → P b' d' → P b d) (b : RingBuf) (d : Diag) :
    P b d := by
  induction hn : b.count using Nat.strong_induction_on generalizing b d with
  | _ n ih =>
    cases hone : parseOnce cap b d with
    | none => exact stop b d hone
    | some r => exact go b d r.1 r.2.1 r.2.2 hone (ih _ (hn ▸ parseOnce_count_lt hone) _ _ rfl)

/-- R195: a pass ends where an iteration stops. -/
theorem parseOnce_parsed (cap : Nat) (b : RingBuf) (d : Diag) :
    parseOnce cap (parsed cap b d).1 (parsed cap b d).2.1 = none := by
  induction b, d using parsed_induction (cap := cap) with
  | stop b d h => rw [parsed_of_none h]; exact h
  | go b d b' d' out h ih => rw [parsed_of_some h]; exact ih

theorem parsed_count_le (cap : Nat) (b : RingBuf) (d : Diag) : (parsed cap b d).1.count ≤ b.count := by
  induction b, d using parsed_induction (cap := cap) with
  | stop b d h => rw [parsed_of_none h]
  | go b d b' d' out h ih => rw [parsed_of_some h]; exact ih.trans (parseOnce_count_lt h).le

/-- R196: the frames of a pass take their bytes from disjoint stretches of the buffer, in order. -/
theorem parsed_raw_sublist (cap : Nat) (b : RingBuf) (d : Diag) :
    ((parsed cap b d).2.2.map (fun f => f.raw)).flatten.Sublist (b.content cap) := by
  induction b, d using parsed_induction (cap := cap) with
  | stop b d h => rw [parsed_of_none h]; exact List.nil_sublist _
  | go b d b' d' out h ih =>
    rw [parsed_of_some h, List.map_append, List.flatten_append]
    rcases parseOnce_some h with ⟨rfl, -, rfl, -⟩ | ⟨f, rfl, -, -, -, rfl, hraw⟩
    · rw [RingBuf.content_skip] at ih
      exact ih.trans (List.drop_sublist 1 _)
    · rw [RingBuf.content_skip] at ih
      rw [List.map_singleton, List.flatten_singleton, hraw]
      exact ((List.Sublist.refl _).append ih).trans (by rw [List.take_append_drop])

/-- R35: a pass counts the frames it emits. -/
theorem parsed_framesOk (cap : Nat) (b : RingBuf) (d : Diag) :
    (parsed cap b d).2.1.framesOk = d.framesOk + BitVec.ofNat 32 (parsed cap b d).2.2.length := by
  induction b, d using parsed_induction (cap := cap) with
  | stop b d h => rw [parsed_of_none h]; exact (BitVec.add_zero _).symm
  | go b d b' d' out h ih =>
    rw [parsed_of_some h]
    rcases parseOnce_some h with ⟨rfl, -, -, rfl | rfl | rfl⟩ | ⟨f, rfl, -, -, rfl, -, -⟩
    · exact ih
    · exact ih
    · exact ih
    · rw [ih, Diag.addFrameOk_framesOk, List.length_append, List.length_singleton, BitVec.ofNat_add, BitVec.add_assoc]
      rfl

end

/-! ## A pass over garbage and a frame -/

/-- No 0xAA 0x55 pair in `g`. -/
def NoHeader (g : List Byte) : Prop := g.IsChain (fun a b => ¬ (a = 0xAA#8 ∧ b = 0x55#8))

theorem noHeader_of_byteAt {g : List Byte}
    (h : ∀ i, i + 1 < g.length → ¬ (byteAt g i = 0xAA#8 ∧ byteAt g (i + 1) = 0x55#8)) : NoHeader g := by
  refine List.isChain_iff_getElem.2 fun i hi => ?_
  have hpair := h i hi
  rwa [byteAt, byteAt, List.getD_eq_getElem _ _ (by omega), List.getD_eq_getElem _ _ hi] at hpair

theorem NoHeader.tail {a : Byte} {g : List Byte} (h : NoHeader (a :: g)) : NoHeader g := List.IsChain.tail h

/-- `n` more bytes discarded on the header check (R36). -/
def Diag.slipped (d : Diag) (n : Nat) : Diag := { d with hdrSlip := d.hdrSlip + BitVec.ofNat 32 n }

@[simp] theorem Diag.slipped_zero (d : Diag) : d.slipped 0 = d := by
  simp [Diag.slipped]

@[simp] theorem Diag.slipped_slipped (d : Diag) (m n : Nat) : (d.slipped m).slipped n = d.slipped (m + n) := by
  simp [Diag.slipped, BitVec.ofNat_add, BitVec.add_assoc]

section
variable {cap : Nat} {c : Byte} {payload r : List Byte}

/-- R186: in garbage with a frame behind it no header begins, not even with the last byte of the garbage. -/
theorem discards_of_garbage {a : Byte} {x g : List Byte} (hx : x ++ r = a :: g ++ frameBytes c payload)
    (hg : NoHeader (a :: g)) (h7 : 7 ≤ x.length) (d : Diag) : Discards x d (d.slipped 1) := by
  refine .inl ⟨h7, ?_, rfl⟩
  rw [← byteAt_append_left (by omega : 0 < x.length) r, ← byteAt_append_left (by omega : 1 < x.length) r, hx]
  cases g with
  | nil =>
    rintro ⟨-, hsecond⟩
    exact absurd (show (0xAA#8 : Byte) = 0x55#8 from hsecond) (by decide)
  | cons a' g => exact (List.isChain_cons_cons.1 hg).1

/-- R185, R187: before the last byte of a frame the parser waits. -/
theorem parseOnce_of_partial_frame {b : RingBuf} (hp : payload.length ≤ 255) (hr : r ≠ [])
    (hx : b.content cap ++ r = frameBytes c payload) (d : Diag) : parseOnce cap b d = none := by
  have hpos := List.length_pos_iff.2 hr
  have hlen := congrArg List.length hx
  rw [List.length_append, RingBuf.length_content, length_frameBytes] at hlen
  by_cases h7 : b.count < 7
  · exact parseOnce_none.2 (.inl h7)
  · have hat : ∀ i, i < 7 → b.peekByte cap i = byteAt (frameBytes c payload) i := fun i hi => by
      rw [RingBuf.peekByte_eq_byteAt, ← hx, byteAt_append_left (by rw [RingBuf.length_content]; omega)]
    refine parseOnce_none.2 (.inr ⟨hat 0 (by omega), hat 1 (by omega), ?_⟩)
    rw [hat 3 (by omega), length_byte_frameBytes c hp]
    omega

/-- What is left of garbage and a frame after one byte is skipped. -/
theorem content_skip_of_cons {b : RingBuf} {a : Byte} {y : List Byte} (hx : b.content cap ++ r = a :: y)
    (h : 0 < b.count) : (b.skip cap 1).content cap ++ r = y := by
  rw [RingBuf.content_skip, ← List.drop_append_of_le_length (by rw [RingBuf.length_content]; omega), hx]
  rfl

/-- R199: as long as bytes of the frame are still to come, a pass discards garbage from the front, on the header check,
and emits nothing. -/
theorem parsed_of_partial_frame (hp : payload.length ≤ 255) (hr : r ≠ []) (g : List Byte) :
    ∀ (b : RingBuf) (d : Diag), NoHeader g → b.content cap ++ r = g ++ frameBytes c payload →
      ∃ g₁ g₂, g = g₁ ++ g₂ ∧ (parsed cap b d).1.content cap ++ r = g₂ ++ frameBytes c payload ∧
        (parsed cap b d).2 = (d.slipped g₁.length, []) := by
  induction g with
  | nil =>
    intro b d _ hx
    rw [parsed_of_none (parseOnce_of_partial_frame hp hr hx d)]
    exact ⟨[], [], rfl, hx, by rw [List.length_nil, Diag.slipped_zero]⟩
  | cons a g ih =>
    intro b d hg hx
    by_cases h7 : b.count < 7
    · rw [parsed_of_none (parseOnce_none.2 (.inl h7))]
      exact ⟨[], a :: g, rfl, hx, by rw [List.length_nil, Diag.slipped_zero]⟩
    · have hslip := parseOnce_of_discards (discards_of_garbage hx hg (by rw [RingBuf.length_content]; omega) d)
      obtain ⟨g₁, g₂, rfl, hcontent, hrest⟩ := ih (b.skip cap 1) (d.slipped 1) hg.tail
        (content_skip_of_cons hx (by omega))
      rw [parsed_of_some hslip, hrest]
      exact ⟨a :: g₁, g₂, rfl, hcontent, by rw [Diag.slipped_slipped, List.length_cons, Nat.add_comm]; rfl⟩

/-- R197, R199: with the whole frame there, a pass discards the garbage, emits the frame and empties the buffer. -/
theorem parsed_of_frame (hp : payload.length ≤ 255) (g : List Byte) :
    ∀ (b : RingBuf) (d : Diag), NoHeader g → b.content cap = g ++ frameBytes c payload →
      (parsed cap b d).1.content cap = [] ∧
      (parsed cap b d).2 = ((d.slipped g.length).addFrameOk, [⟨c, payload, frameBytes c payload⟩]) := by
  induction g with
  | nil =>
    intro b d _ hx
    have hcount : b.count = 7 + payload.length := by
      rw [← RingBuf.length_content cap, hx, List.nil_append, length_frameBytes]
    have hempty : (b.skip cap (7 + payload.length)).count = 0 := by rw [RingBuf.skip_count, hcount, Nat.sub_self]
    rw [parsed_of_some (parseOnce_of_frame hp hx), parsed_of_none (parseOnce_of_empty hempty), List.append_nil,
      List.length_nil, Diag.slipped_zero]
    exact ⟨List.length_eq_zero_iff.1 (by rw [RingBuf.length_content, hempty]), rfl⟩
  | cons a g ih =>
    intro b d hg hx
    have hlen : 7 ≤ (b.content cap).length := by
      rw [hx, List.length_append, length_frameBytes]
      omega
    have hx' : b.content cap ++ [] = a :: g ++ frameBytes c payload := by rw [List.append_nil, hx]
    have hskip := content_skip_of_cons hx' (by rw [← RingBuf.length_content cap]; omega)
    rw [List.append_nil] at hskip
    obtain ⟨hcontent, hrest⟩ := ih (b.skip cap 1) (d.slipped 1) hg.tail hskip
    rw [parsed_of_some (parseOnce_of_discards (discards_of_garbage hx' hg hlen d)), hrest]
    exact ⟨hcontent, by rw [Diag.slipped_slipped, List.length_cons, Nat.add_comm]; rfl⟩

end

/-! ## Write and ParseAll on a lane -/

theorem parseAll_eq (p : Nat) (s : State) : parseAll p s =
    ((s.setRb p (parsed s.params.rbCap (s.lane p).rb s.diag).1).setDiag
      (parsed s.params.rbCap (s.lane p).rb s.diag).2.1, (parsed s.params.rbCap (s.lane p).rb s.diag).2.2) := rfl

/-- Replacing the ring buffer of a lane changes no other part of that lane, nor any other lane. -/
theorem State.lane_setRb_frame (s : State) (p : Nat) (b : RingBuf) :
    (s.setRb p b).lane p = { s.lane p with rb := ((s.setRb p b).lane p).rb } := by
  rw [State.setRb, State.lane_modLane]
  split <;> rfl

theorem State.setRb_setRb (s : State) (p : Nat) (b b' : RingBuf) : (s.setRb p b).setRb p b' = s.setRb p b' :=
  State.modLane_modLane s p _ _

/-- A Write of no bytes changes nothing (R195). -/
theorem rbWrite_nil (p : Nat) (s : State) : rbWrite p [] s = s := by
  rw [rbWrite_eq, RingBuf.write_of_fits (Nat.zero_le _)]
  exact State.setRb_self s p

/-- A pass over a buffer at which an iteration stops changes nothing (R195). -/
theorem parseAll_of_none {p : Nat} {s : State}
    (h : parseOnce s.params.rbCap (s.lane p).rb s.diag = none) : parseAll p s = (s, []) := by
  rw [parseAll_eq, parsed_of_none h]
  exact congrArg (·, []) (State.setRb_self s p)

/-- R186, R188, R189: a pass over a buffer with a byte to discard goes on as a pass over the rest. -/
theorem parseAll_of_discards {p : Nat} {s : State} {d : Diag} (hp : p < s.lanes.length)
    (h : Discards ((s.lane p).rb.content s.params.rbCap) s.diag d) :
    parseAll p s = parseAll p ((s.setRb p ((s.lane p).rb.skip s.params.rbCap 1)).setDiag d) := by
  have hset (b b' : RingBuf) (d' : Diag) :
      (((s.setRb p b).setDiag d).setRb p b').setDiag d' = (s.setRb p b').setDiag d' := by
    rw [← State.setRb_setRb s p b b']
    rfl
  rw [parseAll_eq, parsed_of_some (parseOnce_of_discards h), parseAll_eq, State.lane_setDiag,
    State.lane_setRb_same s _ hp, hset]
  rfl

/-- Lane `p` is there, and its ring buffer, of capacity `cap` and in form, holds the bytes `x`. -/
structure LaneHolds (cap p : Nat) (x : List Byte) (s : State) : Prop where
  rbCap   : s.params.rbCap = cap
  present : p < s.lanes.length
  wf      : (s.lane p).rb.wf cap
  content : (s.lane p).rb.content cap = x

section
variable {cap p : Nat} {x : List Byte} {s : State}

theorem laneHolds_of_empty (hp : p < s.lanes.length) (hwf : (s.lane p).rb.wf s.params.rbCap)
    (h0 : (s.lane p).rb.count = 0) : LaneHolds s.params.rbCap p [] s :=
  ⟨rfl, hp, hwf, List.length_eq_zero_iff.1 (by rw [RingBuf.length_content, h0])⟩

theorem LaneHolds.count (h : LaneHolds cap p x s) : (s.lane p).rb.count = x.length := by
  rw [← h.content, RingBuf.length_content]

/-- R151: a chunk that fits is appended, and no counter moves. -/
theorem LaneHolds.write (h : LaneHolds cap p x s) {data : List Byte} (hfit : x.length + data.length ≤ cap) :
    LaneHolds cap p (x ++ data) (rbWrite p data s) ∧ (rbWrite p data s).diag = s.diag := by
  obtain ⟨hwf, hfits, -⟩ := RingBuf.write_spec h.wf s.params.ovfPolicy data
  obtain ⟨hflag, hcontent⟩ := hfits (by rw [h.count]; omega)
  obtain ⟨hframe, hlanes⟩ := rbWrite_frame p data s
  rw [h.content] at hcontent
  refine ⟨⟨?_, hlanes ▸ h.present, ?_, ?_⟩, by rw [rbWrite_diag, h.rbCap, hflag]; rfl⟩
  · rw [hframe]; exact h.rbCap
  · rw [lane_rbWrite_same p data s h.present, h.rbCap]; exact hwf
  · rw [lane_rbWrite_same p data s h.present, h.rbCap]; exact hcontent

/-- What a pass leaves on a lane. -/
theorem LaneHolds.parse (h : LaneHolds cap p x s) :
    LaneHolds cap p ((parsed cap (s.lane p).rb s.diag).1.content cap) (parseAll p s).1 ∧
    ((parseAll p s).1.diag, (parseAll p s).2) = (parsed cap (s.lane p).rb s.diag).2 := by
  rw [parseAll_eq, h.rbCap]
  have hlane : ((s.setRb p (parsed cap (s.lane p).rb s.diag).1).lane p).rb = (parsed cap (s.lane p).rb s.diag).1 := by
    rw [State.lane_setRb_same s _ h.present]
  refine ⟨⟨h.rbCap, ?_, ?_, ?_⟩, rfl⟩
  · rw [State.setDiag_lanes, State.setRb_lanes, List.length_modify]; exact h.present
  · rw [State.lane_setDiag, hlane]; exact parseLoop_wf _ _ _ h.wf
  · rw [State.lane_setDiag, hlane]

variable {c : Byte} {payload : List Byte} {g : List Byte}

/-- One chunk before the last byte of the frame. -/
theorem LaneHolds.feed_partial (h : LaneHolds cap p x s) {d r : List Byte} (hfit : x.length + d.length ≤ cap)
    (hp : payload.length ≤ 255) (hr : r ≠ []) (hg : NoHeader g) (hx : x ++ d ++ r = g ++ frameBytes c payload) :
    ∃ g₁ g₂ y, g = g₁ ++ g₂ ∧ y ++ r = g₂ ++ frameBytes c payload ∧
      LaneHolds cap p y (parseAll p (rbWrite p d s)).1 ∧
      (parseAll p (rbWrite p d s)).1.diag = s.diag.slipped g₁.length ∧ (parseAll p (rbWrite p d s)).2 = [] := by
  obtain ⟨hwritten, hdiag⟩ := h.write hfit
  obtain ⟨hleft, hrest⟩ := hwritten.parse
  rw [← hwritten.content] at hx
  obtain ⟨g₁, g₂, hsplit, hcontent, hparsed⟩ := parsed_of_partial_frame hp hr g _ (rbWrite p d s).diag hg hx
  obtain ⟨hslips, hframes⟩ := Prod.mk.inj (hrest.trans hparsed)
  exact ⟨g₁, g₂, _, hsplit, hcontent, hleft, by rw [hslips, hdiag], hframes⟩

/-- The chunk with the last byte of the frame. -/
theorem LaneHolds.feed_frame (h : LaneHolds cap p x s) {d : List Byte} (hfit : x.length + d.length ≤ cap)
    (hp : payload.length ≤ 255) (hg : NoHeader g) (hx : x ++ d = g ++ frameBytes c payload) :
    LaneHolds cap p [] (parseAll p (rbWrite p d s)).1 ∧
    (parseAll p (rbWrite p d s)).1.diag = (s.diag.slipped g.length).addFrameOk ∧
    (parseAll p (rbWrite p d s)).2 = [⟨c, payload, frameBytes c payload⟩] := by
  obtain ⟨hwritten, hdiag⟩ := h.write hfit
  obtain ⟨hleft, hrest⟩ := hwritten.parse
  obtain ⟨hcontent, hparsed⟩ := parsed_of_frame hp g _ (rbWrite p d s).diag hg (hwritten.content.trans hx)
  obtain ⟨hcounts, hframes⟩ := Prod.mk.inj (hrest.trans hparsed)
  exact ⟨hcontent ▸ hleft, by rw [hcounts, hdiag], hframes⟩

end

/-! ## A stream fed in chunks -/

section
variable {p : Nat} {s : State}

theorem feedLane_singleton (p : Nat) (d : List Byte) (s : State) : feedLane p [d] s = parseAll p (rbWrite p d s) := by
  show (_, _ ++ []) = _
  rw [List.append_nil]
  rfl

theorem feedLane_append (ds es : List (List Byte)) : ∀ s : State, feedLane p (ds ++ es) s =
    ((feedLane p es (feedLane p ds s).1).1, (feedLane p ds s).2 ++ (feedLane p es (feedLane p ds s).1).2) := by
  induction ds with
  | nil => exact fun _ => rfl
  | cons d ds ih =>
    intro s
    simp only [List.cons_append, feedLane, ih, List.append_assoc]

theorem feedLane_concat (ds : List (List Byte)) (d : List Byte) (s : State) : feedLane p (ds ++ [d]) s =
    ((parseAll p (rbWrite p d (feedLane p ds s).1)).1,
      (feedLane p ds s).2 ++ (parseAll p (rbWrite p d (feedLane p ds s).1)).2) := by
  rw [feedLane_append, feedLane_singleton]

/-- A Write adds at most its chunk, whether it overflows or not. -/
theorem RingBuf.write_count_le (cap : Nat) (pol : OvfPolicy) (data : List Byte) (b : RingBuf) :
    (b.write cap pol data).1.count ≤ b.count + data.length := by
  by_cases hfit : data.length ≤ cap - b.count
  · rw [RingBuf.write_of_fits hfit]; exact Nat.le_refl _
  · by_cases hdrop : pol = .clearAndDrop ∨ cap < data.length
    · rw [RingBuf.write_of_dropped (by omega) hdrop]; exact Nat.zero_le _
    · rw [RingBuf.write_of_kept (by omega) hdrop]
      exact Nat.add_le_add_right (Nat.zero_le _) _

/-- A lane never holds more bytes than it was fed. -/
theorem feedLane_count_le (ds : List (List Byte)) : ∀ s : State, p < s.lanes.length →
    ((feedLane p ds s).1.lane p).rb.count ≤ (s.lane p).rb.count + ds.flatten.length := by
  induction ds with
  | nil => exact fun _ _ => Nat.le_refl _
  | cons d ds ih =>
    intro s hp
    have hp' : p < (rbWrite p d s).lanes.length := by rw [(rbWrite_frame p d s).2]; exact hp
    have hrest := ih (parseAll p (rbWrite p d s)).1
      (by rw [parseAll_eq, State.setDiag_lanes, State.setRb_lanes, List.length_modify]; exact hp')
    have hparse : ((parseAll p (rbWrite p d s)).1.lane p).rb.count ≤ ((rbWrite p d s).lane p).rb.count := by
      rw [parseAll_eq, State.lane_setDiag, State.lane_setRb_same _ _ hp']
      exact parsed_count_le _ _ _
    have hwrite : ((rbWrite p d s).lane p).rb.count ≤ (s.lane p).rb.count + d.length := by
      rw [lane_rbWrite_same p d s hp]
      exact RingBuf.write_count_le _ _ _ _
    rw [List.flatten_cons, List.length_append]
    show ((feedLane p ds (parseAll p (rbWrite p d s)).1).1.lane p).rb.count ≤ _
    omega

/-- None of the chunks `ds`, fed to lane `p` one after the other, overflows its buffer of `cap` bytes. -/
def ChunksFit (cap p : Nat) (ds : List (List Byte)) (s : State) : Prop :=
  ∀ pre d post, ds = pre ++ d :: post → ((feedLane p pre s).1.lane p).rb.count + d.length ≤ cap

variable {cap : Nat} {ds : List (List Byte)}

theorem ChunksFit.init {d : List Byte} (h : ChunksFit cap p (ds ++ [d]) s) : ChunksFit cap p ds s :=
  fun pre e post hds => h pre e (post ++ [d]) (by rw [hds, List.append_assoc, List.cons_append])

theorem ChunksFit.last {d : List Byte} (h : ChunksFit cap p (ds ++ [d]) s) :
    ((feedLane p ds s).1.lane p).rb.count + d.length ≤ cap := h ds d [] rfl

/-- Chunks that all fit an empty buffer together fit it one after the other. -/
theorem chunksFit_of_length_le (hp : p < s.lanes.length) (h0 : (s.lane p).rb.count = 0)
    (hlen : ds.flatten.length ≤ cap) : ChunksFit cap p ds s := by
  intro pre d post hds
  have hle := feedLane_count_le pre s hp
  rw [hds, List.flatten_append, List.flatten_cons, List.length_append, List.length_append] at hlen
  omega

variable {c : Byte} {payload : List Byte} {g : List Byte}

/-- R198, R199: as long as bytes of the frame are still to come, the chunks are garbage discarded, and no frame. -/
theorem LaneHolds.feedLane_partial (h : LaneHolds cap p [] s) (hp : payload.length ≤ 255) (hg : NoHeader g)
    (ds : List (List Byte)) : ∀ r : List Byte, ChunksFit cap p ds s → r ≠ [] →
      ds.flatten ++ r = g ++ frameBytes c payload →
      ∃ g₁ g₂ x, g = g₁ ++ g₂ ∧ x ++ r = g₂ ++ frameBytes c payload ∧ LaneHolds cap p x (feedLane p ds s).1 ∧
        (feedLane p ds s).1.diag = s.diag.slipped g₁.length ∧ (feedLane p ds s).2 = [] := by
  induction ds using List.reverseRecOn with
  | nil => exact fun r _ _ hx => ⟨[], g, [], rfl, hx, h, (Diag.slipped_zero _).symm, rfl⟩
  | append_singleton ds d ih =>
    intro r hfit hr hx
    rw [List.flatten_concat, List.append_assoc] at hx
    obtain ⟨g₁, g₂, x, rfl, hrest, hholds, hdiag, hframes⟩ := ih (d ++ r) hfit.init (by simp [hr]) hx
    have hlast := hfit.last
    rw [hholds.count] at hlast
    obtain ⟨g₂, g₃, y, rfl, hrest, hholds, hdiag', hframes'⟩ := hholds.feed_partial hlast hp hr
      (List.IsChain.right_of_append hg) (by rw [List.append_assoc, hrest])
    rw [feedLane_concat]
    refine ⟨g₁ ++ g₂, g₃, y, (List.append_assoc ..).symm, hrest, hholds, ?_, ?_⟩
    · rw [hdiag', hdiag, Diag.slipped_slipped, List.length_append]
    · rw [hframes, hframes', List.append_nil]

/-- R199: the whole stream gives the frame, and an empty chunk after it nothing more. -/
theorem LaneHolds.feedLane_frame (h : LaneHolds cap p [] s) (hp : payload.length ≤ 255) (hg : NoHeader g)
    (ds : List (List Byte)) : ChunksFit cap p ds s → ds.flatten = g ++ frameBytes c payload →
      LaneHolds cap p [] (feedLane p ds s).1 ∧
      (feedLane p ds s).1.diag = (s.diag.slipped g.length).addFrameOk ∧
      (feedLane p ds s).2 = [⟨c, payload, frameBytes c payload⟩] := by
  induction ds using List.reverseRecOn with
  | nil =>
    intro _ hx
    have hlen := congrArg List.length hx
    rw [List.length_append, length_frameBytes] at hlen
    exact absurd hlen (by simp; omega)
  | append_singleton ds d ih =>
    intro hfit hx
    rw [List.flatten_concat] at hx
    rw [feedLane_concat]
    by_cases hd : d = []
    · subst hd
      obtain ⟨hholds, hdiag, hframes⟩ := ih hfit.init (by rw [← hx, List.append_nil])
      rw [rbWrite_nil, parseAll_of_none (parseOnce_of_empty hholds.count), List.append_nil]
      exact ⟨hholds, hdiag, hframes⟩
    · obtain ⟨g₁, g₂, x, rfl, hrest, hholds, hdiag, hframes⟩ := h.feedLane_partial hp hg ds d hfit.init hd hx
      have hlast := hfit.last
      rw [hholds.count] at hlast
      obtain ⟨hholds, hdiag', hframes'⟩ := hholds.feed_frame hlast hp (List.IsChain.right_of_append hg) hrest
      refine ⟨hholds, ?_, by rw [hframes, hframes', List.nil_append]⟩
      rw [hdiag', hdiag, Diag.slipped_slipped, List.length_append]

end

end Sys2Proof.Machine

section
open Sys2Proof Sys2Proof.Machine

/-- Settles O15: a sum of numbers is the same in any order. -/
theorem checksumIsTheModularSum : Obligations.ChecksumIsTheModularSum := by
  intro s c payload
  simp only [exec_csum]
  exact ⟨⟨_, rfl, BitVec.toNat_ofNat ..⟩, by rw [csum_nil], fun q hq => by rw [csum_of_perm c hq]⟩

/-- Settles O17, by what ENCODE and SendFrame answer on either side of 255 bytes. -/
theorem encodeLaysOutTheFrame : Obligations.EncodeLaysOutTheFrame := by
  intro s p c payload o
  rw [exec_encodeFrame, exec_sendFrame]
  refine ⟨fun hle => ⟨csum c payload, exec_csum c payload s, by rw [if_neg (by omega)]; rfl⟩, fun hgt => ?_⟩
  rcases sendFrame_cases p c payload o s with ⟨-, hfail⟩ | ⟨hle, -⟩
  · rw [if_pos hgt, hfail]
    exact ⟨rfl, rfl⟩
  · omega

/-- Settles O18: what one iteration emits is a frame at the front of the buffer, which it consumes. -/
theorem emittedFramesAreWhole : Obligations.EmittedFramesAreWhole := by
  intro s p
  refine ⟨_, _, exec_parseAll p s, rfl, rfl, fun q hq => State.lane_setRb_ne s _ hq, State.lane_setRb_frame s p _,
    fun f hf => ?_, parsed_raw_sublist _ _ _, parsed_framesOk _ _ _⟩
  obtain ⟨hlen, hraw⟩ := parseLoop_frames _ _ _ f hf
  rw [hraw]
  exact ⟨hlen, rfl, rfl, rfl, slice_frameBytes f.code f.payload⟩

/-- Settles O19: a pass ends where an iteration stops, and a second one stops there at once. -/
theorem parserEndStateIsStable : Obligations.ParserEndStateIsStable := by
  intro s p hp
  have hstop : parseOnce s.params.rbCap ((parseAll p s).1.lane p).rb (parseAll p s).1.diag = none := by
    rw [parseAll_eq, State.lane_setDiag, State.lane_setRb_same s _ hp]
    exact parseOnce_parsed _ _ _
  refine ⟨_, exec_parseAll p s, ?_, ?_, ?_⟩
  · have hend := parseOnce_none.1 hstop
    simp only [RingBuf.peekByte_eq_byteAt] at hend
    exact hend.imp_left Nat.le_of_lt_succ
  · rw [exec_parseAll_setRet, exec_parseAll, parseAll_of_none hstop]
    rfl
  · rw [exec_rbWrite, rbWrite_nil]

/-- Settles O20: a frame with room is one chunk of a stream with no garbage; one with no room leaves an empty buffer. -/
theorem frameRoundTrip : Obligations.FrameRoundTrip := by
  intro s p c payload hp hwf h0 hlen
  refine ⟨_, _, exec_rbWrite p _ s, by rw [exec_parseAll_setRet, exec_parseAll], ?_⟩
  by_cases hroom : 7 + payload.length ≤ s.params.rbCap
  · obtain ⟨hholds, hdiag, hframes⟩ := (laneHolds_of_empty hp hwf h0).feed_frame (c := c) (g := [])
      (by rw [length_frameBytes, List.length_nil, Nat.zero_add]; exact hroom) hlen .nil rfl
    rw [List.length_nil, Diag.slipped_zero] at hdiag
    exact ⟨hholds.count, fun _ => ⟨congrArg Ret.frames hframes, hdiag⟩, fun h => by omega⟩
  · have hlong : s.params.rbCap < (frameBytes c payload).length := by rw [length_frameBytes]; omega
    have hwrite : rbWrite p (frameBytes c payload) s = (s.setRb p (s.lane p).rb.clear).setDiag s.diag.addOvfClear := by
      rw [rbWrite_eq, RingBuf.write_of_dropped (by omega) (.inr hlong)]
      rfl
    have hcount : ((rbWrite p (frameBytes c payload) s).lane p).rb.count = 0 := by
      rw [hwrite, State.lane_setDiag, State.lane_setRb_same s _ hp, RingBuf.clear_count]
    rw [parseAll_of_none (parseOnce_of_empty hcount)]
    exact ⟨hcount, fun h => absurd h hroom, fun _ => ⟨rfl, by rw [hwrite]; rfl⟩⟩

/-- Settles O21: the stream of one frame, with no garbage before it. -/
theorem splitFrameIsEmittedOnce : Obligations.SplitFrameIsEmittedOnce := by
  intro s p c payload ds last hp hwf h0 hlen hcap hlast hx
  have hempty := laneHolds_of_empty hp hwf h0
  have hfit : ds.flatten.length + last.length ≤ s.params.rbCap := by
    rw [← List.length_append, hx, length_frameBytes]
    exact hcap
  obtain ⟨g₁, g₂, x, hsplit, hrest, hholds, hdiag, hframes⟩ := hempty.feedLane_partial hlen .nil ds last
    (chunksFit_of_length_le hp h0 (by omega)) hlast hx
  obtain ⟨rfl, rfl⟩ := List.append_eq_nil_iff.1 hsplit.symm
  obtain rfl : x = ds.flatten := List.append_cancel_right (hrest.trans hx.symm)
  obtain ⟨hholds', -, hframe⟩ := hholds.feed_frame (g := []) hfit hlen .nil hx
  rw [feedLane_singleton]
  exact ⟨hframes, by rw [hdiag, List.length_nil, Diag.slipped_zero], hholds.content, hframe, hholds'.count⟩

/-- Settles O22: the garbage is discarded chunk by chunk, and then the frame is emitted; any discard is one iteration of
the pass. -/
theorem garbageThenFrame : Obligations.GarbageThenFrame := by
  refine ⟨fun s p c payload garbage ds hp hwf h0 hlen hx hfit hgarbage => ?_, ?_⟩
  · obtain ⟨hholds, hdiag, hframes⟩ := (laneHolds_of_empty hp hwf h0).feedLane_frame hlen
      (noHeader_of_byteAt hgarbage) ds hfit hx
    exact ⟨hframes, hholds.count, hdiag⟩
  · intro s p d hp x len header tail h
    refine ⟨_, _, exec_rbSkip p 1 s, ?_, exec_parseAll p _, ?_⟩
    · rw [State.lane_setRet, State.lane_setRb_same s _ hp, RingBuf.content_skip]
    · rw [exec_parseAll, parseAll_of_discards hp h]
      rfl

end

/-! # The serial lanes (42_transport.md R222-R233) -/

namespace Sys2Proof.Machine

/-! ## Changes of one lane -/

section
variable {p : Nat} {s : State} {f g : Lane → Lane}

/-- A change of a lane is what it makes of the lane that is there. -/
theorem State.modLane_congr (h : f (s.lane p) = g (s.lane p)) : s.modLane p f = s.modLane p g := by
  have hlanes : s.lanes.modify p f = s.lanes.modify p g := by
    apply List.ext_getElem?
    intro i
    rw [List.getElem?_modify, List.getElem?_modify]
    split
    · rename_i hi
      subst hi
      cases hl : s.lanes[p]? with
      | none => rfl
      | some l =>
        rw [State.lane, List.getD_eq_getElem?_getD, hl, Option.getD_some] at h
        exact congrArg some h
    · rfl
  rw [State.modLane, State.modLane, hlanes]

theorem State.modLane_of_eq (h : f (s.lane p) = s.lane p) : s.modLane p f = s := by
  rw [State.modLane_congr (g := id) h, State.modLane, List.modify_id]

end

/-! ## The meanings of the rows -/

section
variable (p : Nat) (s : State)

theorem exec_openLane (role : Role) (baud : Word) : exec (.openLane p role baud) s =
    .next ((openLane p role baud s).1.setRet (.bool (openLane p role baud s).2)) := rfl

theorem exec_arrive (b : Byte) : exec (.arrive p b) s = .next ((arrive p b s).setRet .unit) := rfl

theorem exec_transmit (bytes : List Byte) (o : Owner) :
    exec (.transmit p bytes o) s = .next ((transmit p bytes o s).setRet .unit) := rfl

theorem exec_stopLane : exec (.stopLane p) s = .next ((stopLane p s).setRet .unit) := rfl

theorem exec_portFault : exec (.portFault p) s = .next ((portFault p s).setRet .unit) := rfl

theorem exec_inbound (f : Frame) (s : State) :
    exec (.inbound f) s = .next ((inbound f s).1.setRet (.events (inbound f s).2)) := rfl

variable {p s}

theorem exec_rxStep_of_ready (h : rxReady p s = true) :
    exec (.rxStep p) s = .next ((rxChunk p (chunkLen p s) s).setRet .unit) := if_pos h

theorem exec_rxStep_of_not_ready (h : ¬ rxReady p s = true) : exec (.rxStep p) s = .next (s.setRet .waits) := if_neg h

theorem exec_txDone_of_nil (h : (s.lane p).txq = []) : exec (.txDone p) s = .next (s.setRet .waits) := by
  show execTxDone p s = _
  simp only [execTxDone, h, waits_eq]

variable {i : TxItem} {q : List TxItem}

theorem exec_txDone_of_cons (h : (s.lane p).txq = i :: q) :
    exec (.txDone p) s = .next ((txDone p i.owner s).setRet .unit) := by
  show execTxDone p s = _
  simp only [execTxDone, h, answer_eq]

theorem exec_writeTimeout_of_cons (h : (s.lane p).txq = i :: q) : exec (.writeTimeout p) s =
    .next (if writeTimeoutDue p s = true then (writeTimeout p i.owner s).setRet .unit else s.setRet .waits) := by
  show execWriteTimeout p s = _
  simp only [execWriteTimeout, h, answer_eq, waits_eq]
  split <;> rfl

theorem exec_teardownActive (reason : Reason) (h : s.conn = .connected) :
    exec (.teardownActive reason) s = .next ((teardownActive reason s).setRet .unit) := if_pos h

/-- R104, R233: a command row is SendFrame of its code and payload; only a Ping is a probe's. -/
theorem exec_of_txParts {i : Instr} {c : Byte} {payload : List Byte} (hw : s.params.wf)
    (h : txParts s.params.code i = some (p, c, payload)) :
    exec i s = exec (.sendFrame p c payload (if c = s.params.code.ping then .probe else .request)) s := by
  obtain ⟨-, -, -, -, -, hcmd, -⟩ := hw
  simp only [Codes.commands, List.nodup_cons, List.mem_cons, not_or] at hcmd
  obtain ⟨⟨enable, -⟩, ⟨config, status, stimulation, phases, -⟩, -⟩ := hcmd
  cases i with
  | framePing => cases h; rw [if_pos rfl]; rfl
  | frameEnableDisable => cases h; rw [if_neg enable]; rfl
  | frameGetConfig => cases h; rw [if_neg (Ne.symm config)]; rfl
  | frameGetStatus => cases h; rw [if_neg (Ne.symm status)]; rfl
  | frameSetStimulation => cases h; rw [if_neg (Ne.symm stimulation)]; rfl
  | frameSetPhases => cases h; rw [if_neg (Ne.symm phases)]; rfl
  | _ => cases h

end

/-! ## Stopping a lane -/

section
variable {p : Nat} {s : State}

theorem Lane.cutTx_eq (cut : Nat) (l : Lane) :
    l.cutTx cut = ((l.txq.map TxItem.bytes).headD []).take (if l.wt then cut else 0) := by
  unfold Lane.cutTx
  cases l.txq with
  | nil => simp
  | cons i q => cases l.wt <;> simp

theorem Lane.cutTx_of_cons {l : Lane} {i : TxItem} {q : List TxItem} (hq : l.txq = i :: q) (hw : l.wt = true)
    (cut : Nat) : l.cutTx cut = i.bytes.take cut := by
  rw [Lane.cutTx_eq, hq, hw]; rfl

theorem Lane.cutTx_of_not_wt {l : Lane} (hw : l.wt = false) (cut : Nat) : l.cutTx cut = [] := by
  rw [Lane.cutTx_eq, hw]; exact List.take_zero

/-- R230: the parts of the state that a stop can change. -/
theorem stopLane_frame (p : Nat) (s : State) : stopLane p s =
    { s with lanes := (stopLane p s).lanes, probes := (stopLane p s).probes, req := (stopLane p s).req } := by
  rw [stopLane_eq]; rfl

/-- R230: a stop fails the request engine's frame when it is queued on that lane. -/
theorem stopLane_req (p : Nat) (s : State) : (stopLane p s).req =
    { s.req with send := if (s.lane p).txq.any (fun i => i.owner == .request) then .fail else s.req.send } := by
  rw [stopLane_eq, State.modLane_req, State.setProbes_req, State.modReq_req]
  exact (apply_ite (fun o => { s.req with send := o })
    ((s.lane p).txq.any (fun i => i.owner == .request) = true) .fail s.req.send).symm

theorem stopLane_frame_of_not_pinging (h : (s.probe p).st ≠ .pinging) :
    stopLane p s = { s with lanes := (stopLane p s).lanes, req := (stopLane p s).req } :=
  (stopLane_frame p s).trans (by rw [stopLane_probes_of_not_pinging h])

theorem stopLane_probe_same (h : p < s.probes.length) : (stopLane p s).probe p =
    if (s.probe p).st = .pinging ∧ (s.lane p).txq.any (fun i => i.owner == .probe) then
      { s.probe p with st := .fail, timer := none } else s.probe p := by
  by_cases hst : (s.probe p).st = .pinging
  · by_cases hq : (s.lane p).txq.any (fun i => i.owner == .probe) = true
    · rw [if_pos ⟨hst, hq⟩, stopLane_eq, State.probe_modLane, if_pos ⟨hq, hst⟩]
      exact State.probe_modProbe_same s _ h
    · rw [if_neg (fun hx => hq hx.2), stopLane_eq, State.probe_modLane, if_neg (fun hx => hq hx.1)]
      rfl
  · rw [if_neg (fun hx => hst hx.1), stopLane_probe_of_not_pinging hst]

/-- R230: what a stop leaves of its lane. -/
theorem Lane.stopped_eq (cut : Nat) (l : Lane) : l.stopped cut =
    { l with role := .closed, rx := .stopped, txq := [], wt := false, stg := [],
             rb := { l.rb with r := 0, w := 0, count := 0 },
             txd := l.txd ++ ((l.txq.map (fun i => i.bytes)).headD []).take (if l.wt then cut else 0) } := by
  rw [← Lane.cutTx_eq]; rfl

/-- R267: failing a probe that runs closes its lane and marks it FAIL, and touches no other port. -/
theorem probeFail_of_running (hp : p < s.lanes.length) (hb : p < s.probes.length)
    (h : (s.probe p).st = .pinging ∨ (s.probe p).st = .waiting ∨ (s.probe p).st = .ok) :
    probeFail p s =
      { s with lanes := (probeFail p s).lanes, probes := (probeFail p s).probes, req := (probeFail p s).req } ∧
    (∀ q, q ≠ p → (probeFail p s).lane q = s.lane q ∧ (probeFail p s).probe q = s.probe q) ∧
    ((probeFail p s).lane p).role = .closed ∧
    (probeFail p s).probe p = { s.probe p with st := .fail, timer := none } ∧
    (probeFail p s).req =
      { s.req with send := if (s.lane p).txq.any (fun i => i.owner == .request) then .fail else s.req.send } := by
  have hprobe := State.probe_modProbe_same s (fun b => { b with st := .fail, timer := none }) hb
  rcases probeFail_cases p s with ⟨-, e⟩ | ⟨hn, -⟩
  · rw [e]
    refine ⟨stopLane_frame p (s.modProbe p _), fun q hq => ⟨stopLane_lane_ne _ hq, ?_⟩, ?_, ?_, stopLane_req p _⟩
    · rw [stopLane_probe_ne _ hq, State.probe_modProbe_ne _ _ hq]
    · rw [stopLane_lane_same (s.modProbe p _) hp]; rfl
    · rw [stopLane_probe_of_not_pinging (by rw [hprobe]; nofun), hprobe]
  · rcases h with h | h | h <;> simp [h] at hn

end

/-! ## The transmit path -/

section
variable {p : Nat} {s : State} {i : TxItem} {q : List TxItem}

/-- R227: a frame handed to a lane tells the request engine, when the frame is its own. -/
theorem exec_transmit_eq (p : Nat) (bytes : List Byte) (o : Owner) (s : State) : exec (.transmit p bytes o) s = .next
    ((({ s with req := if o = Owner.request then { s.req with send := .pending } else s.req } : State).modLane p
      (Lane.queued ⟨bytes, o⟩ s.now)).setRet .unit) := by
  rw [exec_transmit, transmit_eq]; rfl

theorem notifyOk_lane (p : Nat) (o : Owner) (s : State) (r : Nat) : (notifyOk p o s).lane r = s.lane r := by
  rw [notifyOk_eq]; rfl

theorem txDone_frame (p : Nat) (o : Owner) (s : State) : txDone p o s =
    { s with lanes := (txDone p o s).lanes, probes := (txDone p o s).probes, req := (txDone p o s).req } := by
  rw [txDone_eq, notifyOk_eq]; rfl

theorem txDone_lane_ne (o : Owner) (s : State) {r : Nat} (hr : r ≠ p) : (txDone p o s).lane r = s.lane r := by
  rw [txDone_eq, notifyOk_lane, State.lane_modLane_ne s _ hr]

/-- R228: the head frame of the lane has left, and the next one starts. -/
theorem txDone_lane_same (hp : p < s.lanes.length) (hq : (s.lane p).txq = i :: q) (o : Owner) :
    (txDone p o s).lane p = { s.lane p with
      txd := (s.lane p).txd ++ i.bytes, txq := q, txStart := if q = [] then (s.lane p).txStart else s.now,
      wt := decide (q ≠ []) } := by
  rw [txDone_eq, notifyOk_lane, State.lane_modLane_same s _ hp, Lane.headSent_startNext hq]

/-- R266: a Ping that has left whole makes a PINGING probe wait, from now on. -/
theorem txDone_probe (p : Nat) (s : State) : (txDone p .probe s).req = s.req ∧
    (∀ r, r ≠ p → (txDone p .probe s).probe r = s.probe r) ∧
    (p < s.probes.length → (txDone p .probe s).probe p = if (s.probe p).st = .pinging then
      { s.probe p with st := .waiting, timer := some s.now } else s.probe p) := by
  rw [txDone_eq, notifyOk_probe]
  by_cases hst : (s.probe p).st = .pinging
  · rw [State.probe_modLane, if_pos hst, if_pos hst]
    exact ⟨rfl, fun r hr => State.probe_modProbe_ne _ _ hr, fun hb => State.probe_modProbe_same (s.modLane p _) _ hb⟩
  · rw [State.probe_modLane, if_neg hst, if_neg hst]
    exact ⟨rfl, fun _ _ => rfl, fun _ => rfl⟩

/-! ## The write timeout -/

theorem Lane.headFailed_of_cons {l : Lane} (hq : l.txq = i :: q) (hw : l.wt = true) (cut : Nat) :
    l.headFailed cut = { l with txd := l.txd ++ i.bytes.take cut, txq := q, wt := false } := by
  rw [Lane.headFailed, Lane.cutTx_of_cons hq hw, hq]; rfl

/-- R229: the head frame of lane `p` has failed, and its owner `o`, if it is the request engine, has been told. -/
def headFails (p : Nat) (o : Owner) (s : State) : State :=
  (s.modLane p (Lane.headFailed (s.pin p).cut)).modReq (fun r => if o = .request then { r with send := .fail } else r)

theorem headFails_lane_same (hp : p < s.lanes.length) (hq : (s.lane p).txq = i :: q) (hw : (s.lane p).wt = true)
    (o : Owner) : (headFails p o s).lane p =
      { s.lane p with txd := (s.lane p).txd ++ i.bytes.take (s.pin p).cut, txq := q, wt := false } :=
  (State.lane_modLane_same s _ hp).trans (Lane.headFailed_of_cons hq hw _)

theorem headFails_req (p : Nat) (o : Owner) (s : State) :
    (headFails p o s).req = { s.req with send := if o = .request then .fail else s.req.send } := by
  cases o <;> rfl

/-- R229, R276: a write timeout on the active lane fails the head frame and stops the lane with the others queued. -/
theorem writeTimeout_of_active (hp : p < s.lanes.length) (hr : (s.lane p).role = .active) (hc : s.conn = .connected)
    (ha : s.active = p) (hst : (s.probe p).st ≠ .pinging) (o : Owner) : writeTimeout p o s =
      ((stopLane p (headFails p o s)).setConn .disconnected noPort).post (.disconnected .writeTimeout) := by
  have hrole : ((headFails p o s).lane p).role = .active := by
    rw [headFails, State.lane_modReq, State.lane_modLane_same s _ hp]; exact hr
  have htold : notifyFail p o (s.modLane p (Lane.headFailed (s.pin p).cut)) = headFails p o s :=
    notifyFail_of_not_pinging (s := s.modLane p _) hst o
  rw [writeTimeout, htold, if_pos hrole, teardownActive, if_pos (by exact hc),
    show (headFails p o s).active = p from ha]

/-- R229, R266: on a probe lane the Ping's failure is the probe's, when it is PINGING, and nothing else comes of it. -/
theorem writeTimeout_of_probe (hp : p < s.lanes.length) (hb : p < s.probes.length) (hr : (s.lane p).role = .probe) :
    writeTimeout p .probe s = notifyFail p .probe (s.modLane p (Lane.headFailed (s.pin p).cut)) := by
  refine if_neg ?_
  rw [notifyFail_probe]
  split
  · obtain ⟨-, -, hrole, -⟩ :=
      probeFail_of_running (s := s.modLane p (Lane.headFailed (s.pin p).cut)) (by simpa using hp) hb (.inl ‹_›)
    rw [hrole]; nofun
  · rw [State.lane_modLane_same s _ hp, Lane.headFailed_role, hr]; nofun

end

end Sys2Proof.Machine

/-! # The receive path of a lane (42_transport.md R223-R226) -/

namespace Sys2Proof.Machine

section
variable {p : Nat} {s : State}

/-! ## Arrival -/

theorem arrive_of_closed (h : (s.lane p).role = .closed) (b : Byte) : arrive p b s = s := if_pos h

theorem arrive_of_full (h : (s.lane p).role ≠ .closed) (hfull : s.params.rdChunk ≤ (s.lane p).stg.length) (b : Byte) :
    arrive p b s = s.setDiag s.diag.addRxOverrun := by
  rw [arrive, if_neg h, if_pos hfull]

theorem arrive_of_room (h : (s.lane p).role ≠ .closed) (hroom : (s.lane p).stg.length < s.params.rdChunk) (b : Byte) :
    arrive p b s = s.modLane p (fun l => { l with stg := l.stg ++ [b] }) := by
  rw [arrive, if_neg h, if_neg (by omega)]

/-- R223: bytes that arrive on a closed lane are lost. -/
theorem arriveAll_of_closed (h : (s.lane p).role = .closed) (bytes : List Byte) :
    bytes.foldl (fun t b => arrive p b t) s = s := by
  induction bytes with
  | nil => rfl
  | cons b bytes ih => rw [List.foldl_cons, arrive_of_closed h, ih]

/-- R223, R41: bytes that arrive on an open lane are staged as far as there is room, and the others counted. -/
theorem arriveAll_of_open (bytes : List Byte) : ∀ s : State, p < s.lanes.length → (s.lane p).role ≠ .closed →
    bytes.foldl (fun t b => arrive p b t) s =
      (s.modLane p (fun l => { l with stg := l.stg ++ bytes.take (s.params.rdChunk - (s.lane p).stg.length) })).setDiag
        { s.diag with rxOverrun := s.diag.rxOverrun +
            BitVec.ofNat 32 (bytes.length - (s.params.rdChunk - (s.lane p).stg.length)) } := by
  induction bytes with
  | nil =>
    intro s _ _
    rw [State.modLane_of_eq (by simp)]
    simp [State.setDiag]
  | cons b bytes ih =>
    intro s hp ho
    rw [List.foldl_cons]
    by_cases hroom : (s.lane p).stg.length < s.params.rdChunk
    · have hlane := State.lane_modLane_same s (fun l => { l with stg := l.stg ++ [b] }) hp
      obtain ⟨n, hn⟩ := Nat.exists_eq_add_of_lt hroom
      have hbefore : s.params.rdChunk - (s.lane p).stg.length = n + 1 := by omega
      have hafter : s.params.rdChunk - ((s.lane p).stg ++ [b]).length = n := by simp; omega
      rw [arrive_of_room ho hroom, ih _ (by simpa using hp) (by rw [hlane]; exact ho), hlane, State.modLane_modLane]
      simp only [State.modLane_params, State.modLane_diag, hbefore, hafter, List.take_succ_cons, List.length_cons,
        Nat.add_sub_add_right]
      exact congrArg (State.setDiag · _) (State.modLane_congr (by simp))
    · have hfull : s.params.rdChunk - (s.lane p).stg.length = 0 := by omega
      have hcount : s.diag.rxOverrun + 1 + BitVec.ofNat 32 bytes.length =
          s.diag.rxOverrun + BitVec.ofNat 32 (bytes.length + 1) := by
        rw [BitVec.add_assoc, Nat.add_comm, BitVec.ofNat_add]; rfl
      rw [arrive_of_full ho (by omega), ih (s.setDiag s.diag.addRxOverrun) hp ho]
      simp only [State.setDiag_params, State.lane_setDiag, hfull, Nat.sub_zero, List.length_cons, ← hcount]
      rfl

/-! ## One RX step -/

theorem rxReady_iff : rxReady p s = true ↔ (s.lane p).rx = .idle ∧ (s.lane p).stg ≠ [] := by
  simp [rxReady]

/-- R224: the chunk is at least one byte, and no more than are staged. -/
theorem chunkLen_bounds (h : (s.lane p).stg ≠ []) : 1 ≤ chunkLen p s ∧ chunkLen p s ≤ (s.lane p).stg.length := by
  have := List.length_pos_iff.2 h
  unfold chunkLen
  omega

/-- A Write and a pass change the ring buffer of their lane and the counters. -/
theorem feedLane_singleton_changes (p : Nat) (data : List Byte) (s : State) :
    ∃ b d, (feedLane p [data] s).1 = (s.setRb p b).setDiag d := by
  obtain ⟨b, d, e⟩ : ∃ b d, rbWrite p data s = (s.setRb p b).setDiag d := ⟨_, _, rbWrite_eq p data s⟩
  rw [feedLane_singleton, e, parseAll_eq]
  generalize (parsed _ _ _ : RingBuf × Diag × List Frame) = r
  exact ⟨r.1, r.2.1, congrArg (fun t : State => { t with diag := r.2.1 }) (State.setRb_setRb s p b r.1)⟩

/-- R224: what the state is when a chunk is parsed and `x` is left staged. -/
theorem feedLane_singleton_frame (hp : p < s.lanes.length) {data : List Byte} {u : State} {fs : List Frame}
    (h : feedLane p [data] s = (u, fs)) (x : List Byte) :
    u.modLane p (fun l => { l with stg := x }) =
      { s with lanes := (u.modLane p (fun l => { l with stg := x })).lanes, diag := u.diag } ∧
    (∀ q, q ≠ p → (u.modLane p (fun l => { l with stg := x })).lane q = s.lane q) ∧
    (u.modLane p (fun l => { l with stg := x })).lane p = { s.lane p with stg := x, rb := (u.lane p).rb } := by
  obtain ⟨b, d, hu⟩ := feedLane_singleton_changes p data s
  rw [h] at hu
  obtain rfl : u = (s.setRb p b).setDiag d := hu
  have hlane : ((s.setRb p b).setDiag d).lane p = { s.lane p with rb := b } := State.lane_setRb_same s b hp
  refine ⟨rfl, fun q hq => ?_, ?_⟩
  · rw [State.lane_modLane_ne _ _ hq, State.lane_setDiag, State.lane_setRb_ne s b hq]
  · rw [State.lane_modLane_same _ _ (by simpa using hp), hlane]

theorem State.lane_modLane_stg_rb (x : List Byte) (s : State) :
    ((s.modLane p (fun l => { l with stg := x })).lane p).rb = (s.lane p).rb := by
  rw [State.lane_modLane]; split <;> rfl

/-- A Write reads and changes nothing of what is staged. -/
theorem rbWrite_modLane_stg (data x : List Byte) (s : State) :
    rbWrite p data (s.modLane p (fun l => { l with stg := x })) =
      (rbWrite p data s).modLane p (fun l => { l with stg := x }) := by
  rw [rbWrite_eq, rbWrite_eq, State.lane_modLane_stg_rb]
  simp only [State.setRb, State.setDiag, State.modLane, List.modify_modify_eq]
  rfl

/-- Nor does a pass of the parser. -/
theorem parseAll_modLane_stg (x : List Byte) (s : State) :
    parseAll p (s.modLane p (fun l => { l with stg := x })) =
      ((parseAll p s).1.modLane p (fun l => { l with stg := x }), (parseAll p s).2) := by
  rw [parseAll_eq, parseAll_eq, State.lane_modLane_stg_rb]
  simp only [State.setRb, State.setDiag, State.modLane, List.modify_modify_eq]
  rfl

/-- R224: the chunk may leave the staging FIFO before it is written and parsed, or after. -/
theorem rxParsed_eq (p k : Nat) (s : State) : rxParsed p k s =
    ((feedLane p [(s.lane p).stg.take k] s).1.modLane p (fun l => { l with stg := (s.lane p).stg.drop k }),
      (feedLane p [(s.lane p).stg.take k] s).2) := by
  rw [rxParsed, feedLane_singleton, ← parseAll_modLane_stg, ← rbWrite_modLane_stg]
  exact congrArg (fun t => parseAll p (rbWrite p _ t)) (State.modLane_congr rfl)

/-- R226: the state and the events that routing frames gave, as the RX engine of lane `p` holds them. -/
def holdEvents (p : Nat) (r : State × List Event) : State :=
  if r.2 = [] then r.1 else r.1.modLane p (fun l => { l with rx := .delivering r.2 })

theorem rxChunk_of_fed {k : Nat} {u : State} {fs : List Frame} (h : feedLane p [(s.lane p).stg.take k] s = (u, fs)) :
    rxChunk p k s =
      holdEvents p (routeFrames p fs (u.modLane p (fun l => { l with stg := (s.lane p).stg.drop k }))) := by
  rw [rxChunk_eq, rxParsed_eq, h]; rfl

theorem holdEvents_of_nil {r : State × List Event} (h : r.2 = []) : holdEvents p r = r.1 := if_pos h

/-- R226: holding events changes what the RX engine of lane `p` delivers. -/
theorem holdEvents_frame (p : Nat) (r : State × List Event) :
    holdEvents p r = { r.1 with lanes := (holdEvents p r).lanes } ∧
    (∀ q, q ≠ p → (holdEvents p r).lane q = r.1.lane q) ∧
    (holdEvents p r).lane p = { r.1.lane p with rx := ((holdEvents p r).lane p).rx } := by
  unfold holdEvents
  split
  · exact ⟨rfl, fun _ _ => rfl, rfl⟩
  · refine ⟨rfl, fun q hq => State.lane_modLane_ne _ _ hq, ?_⟩
    rw [State.lane_modLane]
    split <;> rfl

/-- R226: routing frames changes the probes, the scan and the registers, and no lane. -/
theorem routeFrames_frame (p : Nat) (fs : List Frame) (s : State) : (routeFrames p fs s).1 =
    { s with probes := (routeFrames p fs s).1.probes, scan := (routeFrames p fs s).1.scan,
             regs := (routeFrames p fs s).1.regs } := by
  have hchange : ∃ probes scan regs,
      (routeFrames p fs s).1 = { s with probes := probes, scan := scan, regs := regs } := by
    cases hr : (s.lane p).role with
    | active =>
      obtain ⟨-, -, _, _, _, _, e⟩ := routeFrames_active p fs s s.ret hr
      exact ⟨_, _, _, e⟩
    | probe =>
      obtain ⟨-, -, _, _, _, e⟩ := routeFrames_probe p fs s s.ret hr
      exact ⟨_, _, _, e⟩
    | closed => exact ⟨_, _, _, by rw [routeFrames_closed p fs s hr]⟩
  obtain ⟨_, _, _, e⟩ := hchange
  rw [e]

theorem routeFrames_lane (p : Nat) (fs : List Frame) (s : State) (q : Nat) :
    (routeFrames p fs s).1.lane q = s.lane q := by
  rw [routeFrames_frame]; rfl

/-! ## A whole frame on a line -/

theorem routeFrames_singleton (p : Nat) (f : Frame) (s : State) : routeFrames p [f] s = routeFrame p f s := by
  show (_, _ ++ []) = _
  rw [List.append_nil]
  rfl

/-- R147: bytes that arrive on an idle lane with nothing staged, and fit its staging FIFO, are one chunk. -/
theorem rxLine_of_nothing_staged {data : List Byte} (hp : p < s.lanes.length) (ho : (s.lane p).role ≠ .closed)
    (hidle : (s.lane p).rx = .idle) (hstg : (s.lane p).stg = []) (hdata : data ≠ [])
    (hroom : data.length ≤ s.params.rdChunk) :
    rxLine p data s = holdEvents p (routeFrames p (feedLane p [data] s).2 (feedLane p [data] s).1) := by
  have hstaged : data.foldl (fun t b => arrive p b t) s = s.modLane p (fun l => { l with stg := data }) := by
    rw [arriveAll_of_open data s hp ho, hstg, List.length_nil, Nat.sub_zero, List.take_of_length_le hroom,
      Nat.sub_eq_zero_of_le hroom, BitVec.add_zero]
    exact congrArg (State.setDiag · s.diag) (State.modLane_congr (by rw [hstg]; rfl))
  have hlane := State.lane_modLane_same s (fun l => { l with stg := data }) hp
  have hparsed : rxParsed p data.length (s.modLane p (fun l => { l with stg := data })) = feedLane p [data] s := by
    rw [rxParsed, feedLane_singleton, hlane, List.take_length, State.modLane_modLane, State.modLane_of_eq
      (congrArg (fun x => { s.lane p with stg := x }) (List.drop_length.trans hstg.symm))]
  have hready : rxReady p (s.modLane p (fun l => { l with stg := data })) = true :=
    rxReady_iff.2 (by rw [hlane]; exact ⟨hidle, hdata⟩)
  simp only [rxLine, hstaged, if_pos hready]
  rw [rxChunk_eq, hlane, hparsed]
  rfl

/-- R190, R197: a frame written to an empty buffer is emitted, and the buffer is empty again. -/
theorem feedLane_frame_of_empty (c : Byte) {payload : List Byte} (hp : p < s.lanes.length)
    (hwf : (s.lane p).rb.wf s.params.rbCap) (h0 : (s.lane p).rb.count = 0) (hlen : payload.length ≤ 255)
    (hcap : 7 + payload.length ≤ s.params.rbCap) : ∃ b : RingBuf, b.count = 0 ∧
      feedLane p [frameBytes c payload] s =
        ((s.setRb p b).setDiag s.diag.addFrameOk, [⟨c, payload, frameBytes c payload⟩]) := by
  obtain ⟨hholds, hdiag, hframes⟩ := (laneHolds_of_empty hp hwf h0).feed_frame (c := c) (g := [])
    (by rw [length_frameBytes, List.length_nil, Nat.zero_add]; exact hcap) hlen .nil rfl
  rw [List.length_nil, Diag.slipped_zero] at hdiag
  rw [← feedLane_singleton] at hholds hdiag hframes
  obtain ⟨b, d, hb⟩ := feedLane_singleton_changes p (frameBytes c payload) s
  have hcount := hholds.count
  rw [hb] at hdiag hcount
  obtain rfl : d = s.diag.addFrameOk := hdiag
  rw [State.lane_setDiag, State.lane_setRb_same s b hp] at hcount
  exact ⟨b, hcount, Prod.ext hb hframes⟩

theorem routeFrame_of_active (h : (s.lane p).role = .active) (f : Frame) : routeFrame p f s = inbound f s := by
  simp only [routeFrame, h]

theorem routeFrame_of_probe (h : (s.lane p).role = .probe) (f : Frame) :
    routeFrame p f s = (probeFrame p f s, []) := by
  simp only [routeFrame, h]

/-- R147, R226: a frame that arrives whole on an idle, empty lane is routed at once, and leaves the lane empty. -/
theorem rxLine_frame (c : Byte) {payload : List Byte} (hp : p < s.lanes.length) (ho : (s.lane p).role ≠ .closed)
    (hidle : (s.lane p).rx = .idle) (hstg : (s.lane p).stg = []) (hwf : (s.lane p).rb.wf s.params.rbCap)
    (h0 : (s.lane p).rb.count = 0) (hlen : payload.length ≤ 255) (hcap : 7 + payload.length ≤ s.params.rbCap)
    (hroom : 7 + payload.length ≤ s.params.rdChunk) : ∃ b : RingBuf, b.count = 0 ∧
      rxLine p (frameBytes c payload) s =
        holdEvents p (routeFrame p ⟨c, payload, frameBytes c payload⟩ ((s.setRb p b).setDiag s.diag.addFrameOk)) := by
  obtain ⟨b, hb, hfed⟩ := feedLane_frame_of_empty c hp hwf h0 hlen hcap
  refine ⟨b, hb, ?_⟩
  rw [rxLine_of_nothing_staged hp ho hidle hstg (by simp [frameBytes]) (by rw [length_frameBytes]; exact hroom), hfed,
    routeFrames_singleton]

/-- Inbound reads the frame, the parameters and the registers: a ring buffer and the counters do not matter to it. -/
theorem inbound_setRb_setDiag (f : Frame) (p : Nat) (b : RingBuf) (d : Diag) (s : State) :
    inbound f ((s.setRb p b).setDiag d) = Prod.map (fun t : State => (t.setRb p b).setDiag d) id (inbound f s) := by
  have htyped : inboundTyped f ((s.setRb p b).setDiag d) =
      Prod.map (fun t : State => (t.setRb p b).setDiag d) id (inboundTyped f s) := by
    have herror : decodeError f ((s.setRb p b).setDiag d) =
        Prod.map (fun t : State => (t.setRb p b).setDiag d) id (decodeError f s) := by
      unfold decodeError; cases f.payload <;> rfl
    simp only [inboundTyped, decodeConfig, decodeStatus, herror,
      apply_ite (Prod.map (fun t : State => (t.setRb p b).setDiag d) id)]
    rfl
  rw [inbound, htyped]
  rfl

/-- R268: who is the winner after an arbitration. -/
theorem arbitrate_eq (p : Nat) (s : State) : arbitrate p s = { s with scan :=
    if s.scan.winner = none ∨ (s.scan.tWin = s.now ∧ ∃ w, s.scan.winner = some w ∧ p < w)
    then { s.scan with winner := some p, tWin := s.now } else s.scan } := by
  unfold arbitrate
  cases h : s.scan.winner with
  | none => rw [if_pos (.inl rfl)]; rfl
  | some w =>
    by_cases hw : s.scan.tWin = s.now ∧ p < w
    · rw [if_pos (.inr ⟨hw.1, w, rfl, hw.2⟩)]; exact if_pos hw
    · rw [if_neg (by simpa using hw)]; exact if_neg hw

theorem probeMatches_iff {f : Frame} : probeMatches p f s = true ↔
    f.code = s.params.code.pingAck ∧ f.payload.head? = some (s.probe p).nonce ∧
    ((s.probe p).st = .pinging ∨ (s.probe p).st = .waiting) := by
  simp only [probeMatches, Bool.and_eq_true, Bool.or_eq_true, decide_eq_true_eq, beq_iff_eq]
  tauto

/-- R267: a frame that answers no Ping is dropped. -/
theorem probeFrame_of_no_match {f : Frame} (h : ¬ probeMatches p f s = true) : probeFrame p f s = s := if_neg h

/-- R267, R268: a frame that answers the Ping makes the probe succeed. -/
theorem probeFrame_of_match {f : Frame} (h : probeMatches p f s = true) : probeFrame p f s = { s with
    probes := s.probes.modify p (fun b => { b with st := .ok, timer := none }),
    regs := { s.regs with scanHits := s.regs.scanHits ||| (1#32 <<< p) },
    scan := if s.scan.winner = none ∨ (s.scan.tWin = s.now ∧ ∃ w, s.scan.winner = some w ∧ p < w)
      then { s.scan with winner := some p, tWin := s.now } else s.scan } := by
  rw [probeFrame, if_pos h, probeSuccess, arbitrate_eq]
  rfl

end

end Sys2Proof.Machine

section
open Sys2Proof Sys2Proof.Machine

/-- Settles O27, by the two cases of OpenLane. -/
theorem openLaneLatchesAndEmpties : Obligations.OpenLaneLatchesAndEmpties := by
  refine fun s p role baud => ⟨fun hno => ?_, fun hbaud hok => ?_⟩
  · rw [exec_openLane, openLane, if_pos hno]
  · rw [exec_openLane, openLane, if_neg (not_or.2 ⟨hbaud, by simp [hok]⟩)]
    rfl

/-- Settles O33: a stop's effect, part by part. -/
theorem stopLaneClosesTheLane : Obligations.StopLaneClosesTheLane := by
  intro s p hp hb
  refine ⟨_, if (s.lane p).wt then (s.pin p).cut else 0, exec_stopLane p s,
    congrArg (State.setRet · .unit) (stopLane_frame p s),
    fun q hq => ⟨stopLane_lane_ne s hq, stopLane_probe_ne s hq⟩, ?_, stopLane_req p s, stopLane_probe_same hb⟩
  rw [State.lane_setRet, stopLane_lane_same s hp, Lane.stopped_eq]

/-- Settles O28, by the three cases of an arrival. -/
theorem byteArrival : Obligations.ByteArrival := by
  refine fun s p b _ _ => ⟨fun hc => ?_, fun ho hfull => ?_, fun ho hroom => ?_⟩ <;> rw [exec_arrive]
  · rw [arrive_of_closed hc]
  · rw [arrive_of_full ho (Nat.le_of_eq hfull.symm)]; rfl
  · rw [arrive_of_room ho hroom]

/-- Settles O34, by the role of the lane. -/
theorem portFaultByRole : Obligations.PortFaultByRole := by
  intro s p hp hb
  rw [exec_portFault, portFault]
  refine ⟨fun hr => ?_, fun hr hc => ?_, fun hr hst => ?_⟩ <;> simp only [hr]
  · refine ⟨_, exec_teardownActive .ioFail hc, rfl, ?_⟩
    rw [teardownActive, if_pos hc]
    exact ⟨rfl, congrArg (· ++ _) (stopLane_ctlOut s.active s)⟩
  · obtain ⟨hframe, hother, hrole, hprobe, -⟩ := probeFail_of_running hp hb hst
    exact ⟨_, rfl, congrArg (State.setRet · .unit) hframe, hother, hrole, hprobe⟩

/-- Settles O30: a command row is a SendFrame, and that is a TRANSMIT or nothing. -/
theorem framesJoinTheTxQueue : Obligations.FramesJoinTheTxQueue := by
  intro s p c payload bytes o hw hlen
  refine ⟨exec_transmit_eq p bytes o s, fun i hi => ?_⟩
  have hsend : exec i s = exec (.sendFrame p c payload o) s := by
    rcases hi with rfl | ⟨hparts, rfl⟩
    · rfl
    · exact exec_of_txParts hw hparts
  rw [hsend, exec_sendFrame]
  rcases sendFrame_cases p c payload o s with ⟨hno, e⟩ | ⟨-, hopen, e⟩ <;> rw [e]
  · have hclosed : (s.lane p).role = .closed := hno.resolve_left (by omega)
    exact ⟨fun _ => rfl, fun hopen => absurd hclosed hopen⟩
  · exact ⟨fun hclosed => absurd hclosed hopen, fun _ => ⟨_, exec_transmit p s _ o, rfl⟩⟩

/-- Settles O31: the head frame leaves its lane, and its owner is told. -/
theorem txDoneCompletesTheHead : Obligations.TxDoneCompletesTheHead := by
  intro s p hp hb
  refine ⟨exec_txDone_of_nil, fun h rest hq => ⟨_, exec_txDone_of_cons hq,
    congrArg (State.setRet · .unit) (txDone_frame p h.owner s), fun q hq => txDone_lane_ne h.owner s hq, ?_,
    fun ho => ?_, fun ho => ?_⟩⟩
  · rw [State.lane_setRet, txDone_lane_same hp hq]
    cases rest <;> rfl
  · rw [ho, txDone_eq]
    exact ⟨rfl, rfl⟩
  · rw [ho]
    obtain ⟨hreq, hne, hsame⟩ := txDone_probe p s
    exact ⟨hreq, hne, hsame hb⟩

/-- Settles O32, by what the write timeout does on the active lane and on a probe lane. -/
theorem writeTimeoutFailsTheHead : Obligations.WriteTimeoutFailsTheHead := by
  intro s p h rest hp hb hq hw
  rw [exec_writeTimeout_of_cons hq]
  refine ⟨fun hlt => ?_, fun hdue => ?_⟩
  · rw [if_neg fun hd => ?_]
    exact absurd (writeTimeoutDue_iff.1 hd).2.2 (by omega)
  rw [if_pos (writeTimeoutDue_iff.2 ⟨hw, by simp [hq], hdue⟩)]
  refine ⟨fun hr hc ha hst => ?_, fun hr hst ho hrest => ?_, fun hr hst ho hrest => ?_⟩
  · have hidle : ((headFails p h.owner s).probe p).st ≠ .pinging := fun hx => nomatch hst.symm.trans hx
    have hlane := headFails_lane_same hp hq hw h.owner
    have hstopped := stopLane_lane_same (headFails p h.owner s) (p := p) ((List.length_modify ..).symm ▸ hp)
    rw [writeTimeout_of_active hp hr hc ha (by rw [hst]; nofun)]
    refine ⟨_, rfl, congrArg (fun t : State =>
      ((t.setConn .disconnected noPort).post (.disconnected .writeTimeout)).setRet .unit)
      (stopLane_frame_of_not_pinging hidle), fun q hq => ?_, ?_⟩
    · exact (stopLane_lane_ne _ hq).trans (State.lane_modLane_ne s _ hq)
    · simp only [State.lane_setRet, State.lane_post, State.lane_setConn, State.setRet_req, State.post_req,
        State.setConn_req, hstopped, stopLane_req, headFails_req, hlane]
      refine ⟨rfl, rfl, rfl, rfl, rfl, ⟨(s.pin p).cut, ?_⟩, ?_⟩
      · rw [Lane.stopped_txd, Lane.cutTx_of_not_wt rfl, List.append_nil]
      · rw [List.any_cons]
        cases h.owner <;> cases rest.any (fun i => i.owner == .request) <;> rfl
  · subst hrest
    rw [ho, writeTimeout_of_probe hp hb hr, notifyFail_probe, State.probe_modLane, if_pos hst]
    obtain ⟨hframe, hother, hrole, hprobe, hreq⟩ :=
      probeFail_of_running (s := s.modLane p (Lane.headFailed (s.pin p).cut)) (by simpa using hp) hb (.inl hst)
    rw [State.lane_modLane_same s _ hp, Lane.headFailed_of_cons hq hw] at hreq
    rw [hreq] at hframe
    refine ⟨_, rfl, congrArg (State.setRet · .unit) hframe, fun q hq => ?_, hrole, hprobe⟩
    obtain ⟨hl, hb'⟩ := hother q hq
    exact ⟨hl.trans (State.lane_modLane_ne s _ hq), hb'⟩
  · subst hrest
    rw [ho, writeTimeout_of_probe hp hb hr, notifyFail_probe, State.probe_modLane, if_neg hst]
    exact ⟨(s.pin p).cut, congrArg (answer · .unit)
      (State.modLane_congr (Lane.headFailed_of_cons hq hw _))⟩

/-- Settles O29: the chunk is parsed, its frames are routed as the lane's role has it, and what they give is held. -/
theorem rxStepTakesOneChunk : Obligations.RxStepTakesOneChunk := by
  intro s p hp
  refine ⟨fun hidle hstg => ?_, fun hno => exec_rxStep_of_not_ready (mt rxReady_iff.1 hno)⟩
  obtain ⟨hk1, hkle⟩ := chunkLen_bounds hstg
  obtain ⟨u, fs, hfed⟩ : ∃ u fs, feedLane p [(s.lane p).stg.take (chunkLen p s)] s = (u, fs) := ⟨_, _, rfl⟩
  obtain ⟨hvframe, hvne, hvsame⟩ := feedLane_singleton_frame hp hfed ((s.lane p).stg.drop (chunkLen p s))
  rw [exec_rxStep_of_ready (rxReady_iff.2 ⟨hidle, hstg⟩), rxChunk_of_fed hfed]
  refine ⟨_, _, u, fs, rfl, hk1, hkle, hfed, ?_⟩
  generalize u.modLane p (fun l => { l with stg := (s.lane p).stg.drop (chunkLen p s) }) = v at *
  obtain ⟨hscan, hprobes, hregs⟩ : v.scan = s.scan ∧ v.probes = s.probes ∧ v.regs = s.regs := by
    rw [hvframe]; exact ⟨rfl, rfl, rfl⟩
  obtain ⟨hframe, hne, hsame⟩ := holdEvents_frame p (routeFrames p fs v)
  have hrole : (v.lane p).role = (s.lane p).role := by rw [hvsame]
  refine ⟨?_, fun q hq => ?_, ?_, fun hr => ?_, fun hr => ?_, fun hr => ?_⟩
  · rw [hframe, routeFrames_frame, hvframe]
    rfl
  · exact (hne q hq).trans ((routeFrames_lane p fs v q).trans (hvne q hq))
  · rw [routeFrames_lane, hvsame] at hsame
    exact hsame
  · obtain ⟨⟨r, hexec⟩, hnil, cfg, sts, cv, sv, hchange⟩ := routeFrames_active p fs v v.ret (hrole.trans hr)
    refine ⟨_, _, hexec, ?_, hnil, ?_⟩
    · unfold holdEvents
      split <;> rfl
    · rw [hframe, hchange]
      exact ⟨hscan, hprobes, congrArg (fun g : Regs =>
        { g with lastConfig := cfg, lastStatus := sts, cfgValid := cv, stsValid := sv }) hregs⟩
  · obtain ⟨⟨r, hexec⟩, hnil, probes, scan, hits, hchange⟩ := routeFrames_probe p fs v v.ret (hrole.trans hr)
    rw [holdEvents_of_nil hnil]
    refine ⟨?_, ?_, ?_⟩
    · rw [State.setRet_self] at hexec
      rw [hexec]; rfl
    · rw [State.lane_setRet, routeFrames_lane, hvsame]; exact hidle
    · rw [hchange]
      exact congrArg (fun g : Regs => { g with scanHits := hits }) hregs
  · rw [routeFrames_closed p fs v (hrole.trans hr)]
    rfl

/-- Settles O24: the frame is parsed at once, and Inbound does with it what it does on its own. -/
theorem frameOnTheActiveLane : Obligations.FrameOnTheActiveLane := by
  intro s i p c payload hi hp hr hidle hstg hwf h0 hlen hcap hroom
  obtain ⟨b, hb, hline⟩ := rxLine_frame c hp (by rw [hr]; nofun) hidle hstg hwf h0 hlen hcap hroom
  have hlane : ((s.setRb p b).setDiag s.diag.addFrameOk).lane p = { s.lane p with rb := b } :=
    State.lane_setRb_same s b hp
  obtain ⟨cfg, sts, cv, sv, more, e⟩ := inbound_changes ⟨c, payload, frameBytes c payload⟩ s
  rw [routeFrame_of_active (by rw [hlane]; exact hr), inbound_setRb_setDiag, e, Prod.map_apply, holdEvents,
    if_neg nofun] at hline
  rw [exec_of_rxParts hi, hline, exec_inbound, e]
  refine ⟨_, _, _, rfl, rfl, rfl, rfl, fun q hq => ?_, ?_⟩
  · exact (State.lane_modLane_ne _ _ hq).trans (State.lane_setRb_ne _ b hq)
  · rw [State.lane_setRet, State.lane_modLane_same _ _ (by simpa using hp), State.lane_setDiag,
      State.lane_setRb_same _ b (by exact hp)]
    exact ⟨rfl, hb⟩

/-- Settles O25: nothing is parsed, and the bytes arrive one after the other. -/
theorem frameOnAClosedOrDeliveringLane : Obligations.FrameOnAClosedOrDeliveringLane := by
  intro s i p c payload hi hp _ _
  rw [exec_of_rxParts hi]
  refine ⟨fun hc hx => ?_, fun evs ho hx => ?_⟩
  · have hready : ¬ rxReady p s = true := fun h => nomatch hx.symm.trans (rxReady_iff.1 h).1
    simp only [rxLine, arriveAll_of_closed hc, if_neg hready]
  · rw [rxLine, arriveAll_of_open _ s hp ho, length_frameBytes]
    refine congrArg (answer · .unit) (if_neg fun h => ?_)
    have hidle := (rxReady_iff.1 h).1
    rw [State.lane_setDiag, State.lane_modLane_same s _ hp] at hidle
    exact nomatch hx.symm.trans hidle

/-- Settles O26: the frame is parsed at once, and ProbeFrame makes of it what it makes of its code and payload. -/
theorem pingAckOnAProbeLane : Obligations.PingAckOnAProbeLane := by
  intro s i p c payload hi hp hbound hr hidle hstg hwf h0 hlen hcap hroom
  obtain ⟨b, hb, hline⟩ := rxLine_frame c hp (by rw [hr]; nofun) hidle hstg hwf h0 hlen hcap hroom
  have hlane : ((s.setRb p b).setDiag s.diag.addFrameOk).lane p = { s.lane p with rb := b } :=
    State.lane_setRb_same s b hp
  rw [routeFrame_of_probe (by rw [hlane]; exact hr), holdEvents_of_nil rfl] at hline
  rw [exec_of_rxParts hi, hline]
  obtain ⟨probes, scan, hits, e⟩ :=
    probeFrame_changes p ⟨c, payload, frameBytes c payload⟩ ((s.setRb p b).setDiag s.diag.addFrameOk)
  have hafter : ∀ q, (probeFrame p ⟨c, payload, frameBytes c payload⟩
      ((s.setRb p b).setDiag s.diag.addFrameOk)).lane q = ((s.setRb p b).setDiag s.diag.addFrameOk).lane q :=
    fun q => by rw [e]; rfl
  have hmatch : probeMatches p ⟨c, payload, frameBytes c payload⟩ ((s.setRb p b).setDiag s.diag.addFrameOk) = true ↔
      c = s.params.code.pingAck ∧ payload.head? = some (s.probe p).nonce ∧
      ((s.probe p).st = .pinging ∨ (s.probe p).st = .waiting) := probeMatches_iff
  refine ⟨_, rfl, fun q hq => (hafter q).trans (State.lane_setRb_ne s b hq), ?_, ?_, by rw [e]; rfl,
    fun hc hnonce hst => ?_, fun hno => ?_⟩
  · rw [State.lane_setRet, hafter, hlane]
  · rw [State.lane_setRet, hafter, hlane]; exact hb
  · rw [probeFrame_of_match (hmatch.2 ⟨hc, hnonce, hst⟩)]
    exact ⟨rfl, State.probe_modProbe_same s _ hbound, fun q hq => State.probe_modProbe_ne s _ hq, rfl⟩
  · rw [probeFrame_of_no_match fun hm => ?_]
    · rfl
    · obtain ⟨hc, hnonce, hst⟩ := hmatch.1 hm
      rcases hno with hno | hno | ⟨hping, hwait⟩
      · exact hno hc
      · exact hno hnonce
      · exact hst.elim hping hwait

end

/-! # A scan is left only by its own end and by reset (43_discovery.md R260, R273) -/

namespace Sys2Proof.Machine

section
variable {s t u : State}

theorem SendStep.conn_eq (h : SendStep s t) : t.conn = s.conn := by
  obtain ⟨hconn, -⟩ := h
  exact hconn

/-- A teardown "runs only in Connected" (R350). -/
theorem teardownActive_of_not_connected (hc : s.conn ≠ .connected) (reason : Reason) : teardownActive reason s = s :=
  if_neg hc

theorem teardownActive_of_scanning (hc : s.conn = .scanning) (reason : Reason) : teardownActive reason s = s :=
  teardownActive_of_not_connected (by rw [hc]; nofun) reason

/-- R273: no request cancels a scan. -/
theorem execute_scanning (hc : s.conn = .scanning) (d : Descriptor) : (execute d s).conn = .scanning := by
  rcases execute_cases d s with ⟨r, e⟩ | ⟨k, -, hneeds, e⟩ <;> rw [e]
  · exact hc
  · cases k with
    | manualConnect | reconnect | scan | disconnect =>
      simp [runRequest, manualConnect, reconnect, scanRequest, disconnect, hc, reqDone_eq]
    | getConfig | getStatus | setStimulation | setPhases | setEnable => exact absurd (hc.symm.trans (hneeds rfl)) nofun

/-- R260: every effect but the scan end's and reset's leaves a scan running. -/
theorem Effect.scanning {x : Input} (he : Effect s x u) (hi : ConnInv s) (hc : s.conn = .scanning)
    (hend : x ≠ .scanEnd) (hreset : x ≠ .reset) : u.conn = .scanning := by
  have keeps {t : State} (h : SendStep s t) : t.conn = .scanning := h.conn_eq.trans hc
  have hr := SendStep.refl s
  cases he with
  | none | retire | hostTakesCtl | hostTakesLane | advance | setPin | scanComplete => exact hc
  | take => exact execute_scanning (s := s.modReq _) hc _
  | regWrite off v => unfold writeReg; split <;> exact hc
  | rxLine p b bytes => exact keeps (hr.rxLine p bytes)
  | arrive p b => exact keeps (hr.arrive p b)
  | rxStep => exact keeps (hr.rxChunk _ _)
  | txDone hq => exact keeps (.txDone hq)
  | @writeTimeout p _ _ hq =>
    have hfail := keeps (.notifyFail_headFailed hq (s.pin p).cut)
    simp only [Machine.writeTimeout, teardownActive_of_scanning hfail, ite_self]
    exact hfail
  | portFault p =>
    unfold Machine.portFault
    split
    · rwa [teardownActive_of_scanning hc]
    · exact keeps (hr.probeFail p)
    · exact hc
  | probeOpen hst => exact keeps (.probeOpen hi hst)
  | probeTimer => exact keeps (hr.probeFail _)
  | scanEnd => exact absurd rfl hend
  | sendComplete ok => simp [finish_eq, reqDone_eq, apply_ite State.conn, hc]
  | reset => exact absurd rfl hreset

end

end Sys2Proof.Machine

section
open Sys2Proof Sys2Proof.Machine

/-- Settles O58, effect by effect. -/
theorem onlyScanEndOrResetLeavesScanning : Obligations.OnlyScanEndOrResetLeavesScanning := by
  intro s t hi hc hstep hleft
  rcases step_cases hstep with ⟨-, rfl⟩ | ⟨x, rest, u, r, hx, he, rfl⟩
  · exact absurd hc hleft
  · rw [hx, List.head?_cons, Option.some.injEq, Option.some.injEq]
    by_contra hother
    obtain ⟨hend, hreset⟩ := not_or.1 hother
    exact hleft (he.scanning hi hc hend hreset)

end

/-! # The scan controller (43_discovery.md R262-R269) -/

namespace Sys2Proof.Machine

section
variable {p q : Nat} {s : State}

/-! ## The start of a scan -/

theorem exec_startScan (s : State) : exec .startScan s = .next ((startScan s).setRet .unit) := rfl

theorem hasSubstring_iff (d name : PortName) : hasSubstring d name = true ↔ d <:+: name := by
  simp only [hasSubstring, List.any_eq_true, List.mem_tails, List.isPrefixOf_iff_prefix, List.infix_iff_prefix_suffix,
    and_comm]

/-- R263: an eligible port is present, and no denylist entry is a substring of its name. -/
theorem eligible_iff : eligible s p = true ↔
    (s.pin p).present = true ∧ ∀ d ∈ s.params.denylist, ¬ d <:+: s.params.portName.getD p [] := by
  simp [eligible, ← hasSubstring_iff]

theorem portMask_succ (n : Nat) (e : Nat → Bool) :
    portMask (n + 1) e = if e n then portMask n e ||| (1#32 <<< n) else portMask n e := by
  simp only [portMask, List.range_succ, List.foldl_append, List.foldl_cons, List.foldl_nil]

theorem getLsbD_one_shiftLeft {n : Nat} (hn : n < 32) (q : Nat) : (1#32 <<< n).getLsbD q = decide (q = n) := by
  rw [← BitVec.twoPow_eq, BitVec.getLsbD_twoPow]
  simp [hn, eq_comm]

/-- R31: bit `q` of the mask says whether port `q` satisfies `e`. -/
theorem getLsbD_portMask (e : Nat → Bool) (q : Nat) {n : Nat} (hn : n ≤ 32) :
    (portMask n e).getLsbD q = (decide (q < n) && e q) := by
  induction n with
  | zero => simp [portMask]
  | succ n ih =>
    have hbit := getLsbD_one_shiftLeft (by omega : n < 32) q
    rw [portMask_succ]
    by_cases hqn : q = n
    · subst hqn
      by_cases he : e q = true <;> simp [he, ih (by omega), hbit]
    · have hlt : q < n + 1 ↔ q < n := by omega
      by_cases he : e n = true <;> simp [he, ih (by omega), hbit, hqn, hlt]

theorem startScan_scanEligible (s : State) :
    (startScan s).regs.scanEligible = portMask s.params.nPorts (eligible s) := rfl

/-- R264: a scan's start makes the eligible ports' probes OPENING and the others' IDLE. -/
theorem startScan_probe (hq : q < s.probes.length) :
    (startScan s).probe q = { s.probe q with st := if eligible s q then .opening else .idle } := by
  simp [startScan, State.probe, hq]

/-! ## A probe's opening, its timer, its frames -/

theorem exec_probeOpen_of_opening (h : (s.probe p).st = .opening) :
    exec (.probeOpen p) s = .next ((probeOpen p s).setRet .unit) := if_pos h

theorem exec_probeOpen_of_not_opening (h : (s.probe p).st ≠ .opening) :
    exec (.probeOpen p) s = .next (s.setRet .waits) := if_neg h

theorem probeOpen_of_no_open (h : s.scan.baud = 0 ∨ (s.pin p).openOk = false) :
    probeOpen p s = s.modProbe p (fun b => { b with st := .fail }) := by
  simp only [probeOpen, openLane, if_pos h]

/-- R265: a port that opens is handed its Ping, with the nonce drawn. -/
theorem probeOpen_of_open (hp : p < s.lanes.length) (hbaud : s.scan.baud ≠ 0) (hok : (s.pin p).openOk = true) :
    probeOpen p s = (s.modLane p (fun l => (l.opened .probe s.scan.baud s.regs).queued
        ⟨frameBytes s.params.code.ping [(s.pin p).nonce], .probe⟩ s.now)).modProbe p
      (fun b => { b with nonce := (s.pin p).nonce, st := .pinging }) := by
  have hopen : openLane p .probe s.scan.baud s = (s.modLane p (Lane.opened .probe s.scan.baud s.regs), true) :=
    if_neg (not_or.2 ⟨hbaud, by simp [hok]⟩)
  rcases sendFrame_cases p s.params.code.ping [(s.pin p).nonce] .probe
    ((s.modLane p (Lane.opened .probe s.scan.baud s.regs)).modProbe p fun b => { b with nonce := (s.pin p).nonce })
    with ⟨hno, -⟩ | ⟨-, -, hsend⟩
  · simp [hp] at hno
  · simp only [probeOpen, hopen, State.pin_modLane, State.modLane_params, State.modProbe_params, hsend]
    simp only [transmit, State.modProbe, State.modLane, List.modify_modify_eq]
    rfl

theorem csum_singleton (c b : Byte) : csum c [b] = c + 1 + b := by
  apply BitVec.eq_of_toNat_eq
  simp [csum, sumBytes, BitVec.toNat_add]

theorem frameBytes_singleton (c b : Byte) :
    frameBytes c [b] = [0xAA#8, 0x55#8, c, 0x01#8, b, c + 1 + b, 0x0D#8, 0x0A#8] := by
  simp [frameBytes, csum_singleton]

/-- R227: the first frame of a lane is sent at once. -/
theorem Lane.queued_of_nil {l : Lane} (h : l.txq = []) (i : TxItem) (now : Nat) :
    l.queued i now = { l with txq := [i], txStart := now, wt := true } := if_pos h

theorem exec_probeTimer_of_due (h : probeTimerDue p s = true) :
    exec (.probeTimer p) s = .next ((probeFail p s).setRet .unit) := if_pos h

theorem exec_probeTimer_of_not_due (h : ¬ probeTimerDue p s = true) :
    exec (.probeTimer p) s = .next (s.setRet .waits) := if_neg h

theorem exec_probeFrame (p : Nat) (f : Frame) (s : State) :
    exec (.probeFrame p f) s = .next ((probeFrame p f s).setRet .unit) := rfl

/-! ## Arbitration -/

theorem exec_arbitrate (p : Nat) (s : State) : exec (.arbitrate p) s = .next ((arbitrate p s).setRet .unit) := rfl

/-- R268: a port becomes the winner when there is none, or in a tie with a higher port. -/
theorem arbitrate_of_better
    (h : s.scan.winner = none ∨ (s.scan.tWin = s.now ∧ ∃ w, s.scan.winner = some w ∧ p < w)) :
    arbitrate p s = s.modScan (fun c => { c with winner := some p, tWin := s.now }) := by
  rw [arbitrate_eq, if_pos h]; rfl

/-- R268: an earlier winner stays, and so does a lower port in a tie. -/
theorem arbitrate_of_not_better {w : Nat} (hw : s.scan.winner = some w) (h : s.scan.tWin ≠ s.now ∨ w ≤ p) :
    arbitrate p s = s := by
  rw [arbitrate_eq, if_neg]
  rintro (hno | ⟨htie, v, hv, hlt⟩)
  · simp [hw] at hno
  · have hwv : w = v := Option.some.inj (hw.symm.trans hv)
    exact h.elim (· htie) (by omega)

/-! ## The end of a scan -/

theorem exec_scanEnd_of_ready (h : scanEndReady s = true) : exec .scanEnd s = .next ((scanEnd s).setRet .unit) :=
  if_pos h

theorem exec_scanEnd_of_not_ready (h : ¬ scanEndReady s = true) : exec .scanEnd s = .next (s.setRet .waits) :=
  if_neg h

/-- R269: the scan-end step is enabled while a scan runs and no probe of a port does. -/
theorem ConnInv.scanEndReady_iff (h : ConnInv s) : scanEndReady s = true ↔ s.conn = .scanning ∧
    ∀ p < s.params.nPorts, (s.probe p).st = .idle ∨ (s.probe p).st = .ok ∨ (s.probe p).st = .fail := by
  obtain ⟨-, -, -, scan, -⟩ := h.control
  rw [Machine.scanEndReady_iff, scan, List.forall_mem_iff_getElem, ← h.probes_length]
  refine and_congr_right fun _ => forall₂_congr fun p hp => ?_
  rw [State.probe, List.getD_eq_getElem _ _ hp]

/-- R269: before the decision, the probe lanes of the losers are stopped and every other lane stands. -/
theorem scanClosed_lane (h : ConnInv s) (hr : scanEndReady s = true) (q : Nat) : (scanClosed s).lane q =
    if q < s.params.nPorts ∧ (s.lane q).role = .probe ∧ s.scan.winner ≠ some q
    then (s.lane q).stopped (s.pin q).cut else s.lane q := by
  have hping : ∀ r, (s.probe r).st ≠ .pinging := fun r hx => by
    have hdone := (h.scanEndReady_iff.1 hr).2 r (h.lt_of_probe (by simp [hx]))
    simp [hx] at hdone
  obtain ⟨-, -, -, -, -, -, -, lane⟩ := stopLosers_spec hping
  exact lane q

/-- R269: the parts of the state that stopping the losers can change. -/
theorem stopLosers_frame (s : State) : ∃ lanes probes req,
    stopLosers s = { s with lanes := lanes, probes := probes, req := req } := by
  refine List.foldlRecOn (motive := fun t : State => ∃ lanes probes req,
    t = { s with lanes := lanes, probes := probes, req := req }) _ _ ⟨s.lanes, s.probes, s.req, rfl⟩ fun t ht p _ => ?_
  obtain ⟨lanes, probes, req, rfl⟩ := ht
  split
  · exact ⟨_, _, _, stopLane_frame p _⟩
  · exact ⟨_, _, _, rfl⟩

theorem stopLosers_winner (s : State) : (stopLosers s).scan.winner = s.scan.winner := by
  obtain ⟨_, _, _, e⟩ := stopLosers_frame s
  rw [e]

theorem scanClosed_frame (s : State) : ∃ lanes probes req, scanClosed s =
    { s with lanes := lanes, probes := probes, req := req, scan := { s.scan with active := false } } := by
  obtain ⟨_, _, _, e⟩ := stopLosers_frame s
  exact ⟨_, _, _, by rw [scanClosed, e]; rfl⟩

/-- R40: a change of a lane that keeps its storage bytes keeps every lane's. -/
theorem State.mem_lane_modLane {f : Lane → Lane} (hf : ∀ l, (f l).rb.mem = l.rb.mem) (q : Nat) :
    ((s.modLane p f).lane q).rb.mem = (s.lane q).rb.mem := by
  rw [State.lane_modLane]
  split
  · exact hf _
  · rfl

/-- What every end of a scan leaves: no scan, the probes IDLE, and in place what it does not speak of. -/
def ScanOver (s t : State) : Prop :=
  t.scan.active = false ∧ (∀ p, (t.probe p).st = .idle) ∧ t.now = s.now ∧ t.diag = s.diag ∧
  t.delivered = s.delivered ∧ ∀ q, (t.lane q).rb.mem = (s.lane q).rb.mem

theorem scanOver_scanClosed (h : ConnInv s) (hr : scanEndReady s = true) : ScanOver s (scanClosed s) := by
  have hidle (p : Nat) : ((scanClosed s).probe p).st = .idle := by
    simp only [scanClosed, State.probe, State.setProbes_probes, List.getD_eq_getElem?_getD, List.getElem?_map]
    cases (stopLosers s).probes[p]? <;> rfl
  have hmem (q : Nat) : ((scanClosed s).lane q).rb.mem = (s.lane q).rb.mem := by
    rw [scanClosed_lane h hr]; split <;> rfl
  obtain ⟨_, _, _, e⟩ := scanClosed_frame s
  refine ⟨rfl, hidle, ?_, ?_, ?_, hmem⟩ <;> rw [e]

theorem ScanOver.scanFails {t : State} (h : ScanOver s t) (reason : Reason) : ScanOver s (scanFails reason t) := h

theorem ScanOver.scanWins {t : State} (h : ScanOver s t) (w : Nat) : ScanOver s (scanWins w t) := by
  obtain ⟨active, idle, now, diag, delivered, mem⟩ := h
  refine ⟨active, idle, now, diag, delivered, fun q => ?_⟩
  rw [← mem q]
  show ((t.modLane w fun l => { l with role := .active }).lane q).rb.mem = (t.lane q).rb.mem
  exact State.mem_lane_modLane (by intro l; rfl) q

/-- R269: a scan without a usable winner leaves the block Disconnected, and every lane closed. -/
theorem scanFails_spec (h : ConnInv s) (hr : scanEndReady s = true) (reason : Reason)
    (hno : ∀ w, s.scan.winner = some w → (s.lane w).role ≠ .probe) :
    (scanFails reason (scanClosed s)).conn = .disconnected ∧
    (∀ q, q < s.params.nPorts → ((scanFails reason (scanClosed s)).lane q).role = .closed) ∧
    (scanFails reason (scanClosed s)).regs = s.regs ∧
    (scanFails reason (scanClosed s)).ctlOut = s.ctlOut ++ [.disconnected reason] ∧
    (scanFails reason (scanClosed s)).scan.result = .noDevice := by
  obtain ⟨-, -, -, -, -, -, port⟩ := scanClosed_spec h hr
  have hclosed (q : Nat) (hq : q < s.params.nPorts) : ((scanClosed s).lane q).role = .closed := by
    obtain ⟨-, -, -, role⟩ := port q hq
    refine role.resolve_right fun ⟨hrole, hw⟩ => hno q hw ?_
    rwa [scanClosed_lane h hr, if_neg fun hx => hx.2.2 hw] at hrole
  refine ⟨rfl, hclosed, ?_⟩
  obtain ⟨_, _, _, e⟩ := scanClosed_frame s
  rw [e]
  exact ⟨rfl, rfl, rfl⟩

/-- R269: a winner whose lane still stands becomes the connection, and keeps its lane as it is. -/
theorem scanWins_spec (h : ConnInv s) (hr : scanEndReady s = true) {w : Nat} (hw : s.scan.winner = some w)
    (hrole : (s.lane w).role = .probe) :
    (scanWins w (scanClosed s)).conn = .connected ∧ (scanWins w (scanClosed s)).active = w ∧
    (scanWins w (scanClosed s)).lane w = { s.lane w with role := .active } ∧
    (∀ q, q < s.params.nPorts → q ≠ w → ((scanWins w (scanClosed s)).lane q).role = .closed) ∧
    (scanWins w (scanClosed s)).regs = { s.regs with cfgValid := false, stsValid := false } ∧
    (scanWins w (scanClosed s)).ctlOut = s.ctlOut ++ [.connected w] ∧
    (scanWins w (scanClosed s)).scan.result = .ok := by
  obtain ⟨-, -, -, -, ll, -, port⟩ := scanClosed_spec h hr
  have hlt : w < (scanClosed s).lanes.length := by rw [ll]; exact h.lt_of_role (by simp [hrole])
  have hwin : (scanWins w (scanClosed s)).lane w = { s.lane w with role := .active } := by
    refine (State.lane_modLane_same (scanClosed s) _ hlt).trans ?_
    rw [scanClosed_lane h hr, if_neg fun hx => hx.2.2 hw]
  have hlose (q : Nat) (hq : q < s.params.nPorts) (hqw : q ≠ w) :
      ((scanWins w (scanClosed s)).lane q).role = .closed := by
    obtain ⟨-, -, -, role⟩ := port q hq
    refine (congrArg Lane.role (State.lane_modLane_ne (scanClosed s) _ hqw)).trans (role.resolve_right ?_)
    exact fun ⟨_, hwq⟩ => hqw (Option.some.inj (hwq.symm.trans hw))
  refine ⟨rfl, rfl, hwin, hlose, ?_⟩
  obtain ⟨_, _, _, e⟩ := scanClosed_frame s
  rw [e]
  exact ⟨rfl, rfl, rfl⟩

/-! ## The decision -/

theorem scanEnd_of_none (hw : s.scan.winner = none) : scanEnd s = scanFails .noDevice (scanClosed s) := by
  rw [scanEnd_eq, stopLosers_winner, hw]

theorem scanEnd_of_some (h : ConnInv s) (hr : scanEndReady s = true) {w : Nat} (hw : s.scan.winner = some w) :
    scanEnd s = if (s.lane w).role = .probe then scanWins w (scanClosed s) else scanFails .ioFail (scanClosed s) := by
  rw [scanEnd_eq, stopLosers_winner, hw]
  simp only [scanClosed_lane h hr w, hw, ne_eq, not_true, and_false, if_false]

end

end Sys2Proof.Machine

section
open Sys2Proof Sys2Proof.Machine

/-- Settles O35: the mask and the probes of StartScan, port by port. -/
theorem startScanRecordsEligiblePorts : Obligations.StartScanRecordsEligiblePorts := by
  intro s hn hb
  have hmask (q : Nat) := getLsbD_portMask (eligible s) q hn
  refine ⟨_, exec_startScan s, rfl, fun q => ?_, fun q hq => ?_⟩
  · rw [State.setRet_regs, startScan_scanEligible, hmask, Bool.and_eq_true, decide_eq_true_eq, eligible_iff]
  · rw [State.probe_setRet, startScan_probe (hb ▸ hq), State.setRet_regs, startScan_scanEligible, hmask,
      decide_eq_true hq, Bool.true_and]

/-- Settles O40: which of the three ends the scan has, and what it leaves. -/
theorem scanEndDecides : Obligations.ScanEndDecides := by
  intro s hi hc
  refine ⟨fun ⟨p, hp, hruns⟩ => exec_scanEnd_of_not_ready fun hr => ?_, fun hdone => ?_⟩
  · have hst := (hi.scanEndReady_iff.1 hr).2 p hp
    rcases hruns with h | h | h <;> simp [h] at hst
  have hr := hi.scanEndReady_iff.2 ⟨hc, hdone⟩
  have hover := scanOver_scanClosed hi hr
  rw [exec_scanEnd_of_ready hr]
  cases hw : s.scan.winner with
  | none =>
    rw [scanEnd_of_none hw]
    obtain ⟨active, idle, now, diag, delivered, mem⟩ := hover.scanFails .noDevice
    exact ⟨_, rfl, active, idle, now, diag, delivered, mem, nofun, nofun,
      fun _ => scanFails_spec hi hr .noDevice (by simp [hw])⟩
  | some w =>
    rw [scanEnd_of_some hi hr hw]
    by_cases hrole : (s.lane w).role = .probe
    · rw [if_pos hrole]
      obtain ⟨active, idle, now, diag, delivered, mem⟩ := hover.scanWins w
      refine ⟨_, rfl, active, idle, now, diag, delivered, mem, fun v hv _ => ?_, fun v hv hlost => ?_, nofun⟩ <;>
        obtain rfl := Option.some.inj hv
      · exact scanWins_spec hi hr hw hrole
      · exact absurd hrole hlost
    · rw [if_neg hrole]
      obtain ⟨active, idle, now, diag, delivered, mem⟩ := hover.scanFails .ioFail
      refine ⟨_, rfl, active, idle, now, diag, delivered, mem, fun v hv hstands => ?_, fun v hv _ => ?_, nofun⟩ <;>
        obtain rfl := Option.some.inj hv
      · exact absurd hstands hrole
      · exact scanFails_spec hi hr .ioFail fun v hv => by rwa [← Option.some.inj (hw.symm.trans hv)]

/-- Settles O36, by the three cases of an opening. -/
theorem probeOpenSendsThePing : Obligations.ProbeOpenSendsThePing := by
  refine fun s p hp hb => ⟨exec_probeOpen_of_not_opening, fun hst hno => ?_, fun hst hbaud hok => ?_⟩
  · rw [exec_probeOpen_of_opening hst, probeOpen_of_no_open hno]
  · rw [exec_probeOpen_of_opening hst, probeOpen_of_open hp hbaud hok]
    refine ⟨_, rfl, rfl, fun q hq => ⟨State.lane_modLane_ne s _ hq, State.probe_modProbe_ne _ _ hq⟩,
      State.probe_modProbe_same _ _ hb, (State.lane_modLane_same s _ hp).trans ?_⟩
    rw [frameBytes_singleton, Lane.queued_of_nil (Lane.opened_txq ..)]
    rfl

/-- Settles O37: the expiry is ProbeFail, while it is due. -/
theorem probeTimerFailsTheProbe : Obligations.ProbeTimerFailsTheProbe := by
  refine fun s p hp hb => ⟨fun t0 htimer hst hle => ?_, fun hno => exec_probeTimer_of_not_due fun hdue => ?_⟩
  · rw [exec_probeTimer_of_due (probeTimerDue_iff.2 ⟨hst, t0, htimer, hle⟩)]
    obtain ⟨hframe, hother, hrole, hprobe, -⟩ := probeFail_of_running hp hb (.inr (.inl hst))
    exact ⟨_, rfl, congrArg (State.setRet · .unit) hframe, hother, hrole, hprobe⟩
  · obtain ⟨hst, t0, htimer, hle⟩ := probeTimerDue_iff.1 hdue
    rcases hno with hnone | hother | ⟨t1, hsome, hlt⟩
    · simp [hnone] at htimer
    · exact hother hst
    · obtain rfl := Option.some.inj (htimer.symm.trans hsome)
      omega

/-- Settles O38: who wins, in each order of two successes. -/
theorem firstSuccessWins : Obligations.FirstSuccessWins := by
  refine fun s p q => ⟨fun hno => ?_, fun w hw hlater => ?_, fun w hw htie hlt => ?_, fun hno => ?_⟩
  · rw [exec_arbitrate, arbitrate_of_better (.inl hno)]
  · rw [exec_arbitrate, arbitrate_of_not_better hw hlater]
  · rw [exec_arbitrate, arbitrate_of_better (.inr ⟨htie, w, hw, hlt⟩)]
  · refine ⟨_, _, exec_arbitrate p s, exec_arbitrate q _, ?_⟩
    rw [arbitrate_of_better (p := p) (.inl hno)]
    by_cases hlt : q < p
    · rw [arbitrate_of_better (p := q) (.inr ⟨rfl, p, rfl, hlt⟩), Nat.min_eq_right hlt.le]
      exact ⟨rfl, rfl⟩
    · rw [arbitrate_of_not_better (w := p) rfl (.inr (not_lt.1 hlt)), Nat.min_eq_left (not_lt.1 hlt)]
      exact ⟨rfl, rfl⟩

/-- Settles O39: a frame that answers the Ping runs ARBITRATE on the succeeded probe, and any other is dropped. -/
theorem probeFrameNeedsTheNonce : Obligations.ProbeFrameNeedsTheNonce := by
  intro s p f
  rw [exec_probeFrame, ← probeMatches_iff]
  refine ⟨fun hm => ?_, fun hm => ?_⟩
  · rw [exec_arbitrate, arbitrate_eq, probeFrame_of_match hm]
    exact ⟨_, rfl, rfl, rfl, fun hp => State.probe_modProbe_same s _ hp, rfl⟩
  · rw [probeFrame_of_no_match hm]

end

/-! # The connection requests and the teardown (43_discovery.md R272-R276) -/

namespace Sys2Proof.Machine

section
variable {p : Nat} {s : State}

/-! ## The end of a connection -/

theorem exec_teardownActive_of_not_connected (reason : Reason) (h : s.conn ≠ .connected) :
    exec (.teardownActive reason) s = .next (s.setRet .waits) := if_neg h

/-- R276: a teardown is a stop of the active lane, with its event. -/
theorem teardownActive_of_connected (h : s.conn = .connected) (reason : Reason) : teardownActive reason s =
    { stopLane s.active s with
        conn := .disconnected, active := noPort, ctlOut := s.ctlOut ++ [.disconnected reason] } := by
  rw [teardownActive, if_pos h, ← stopLane_ctlOut s.active s]
  rfl

theorem stopLane_mem (p : Nat) (s : State) (q : Nat) : ((stopLane p s).lane q).rb.mem = (s.lane q).rb.mem := by
  rw [stopLane_eq, State.mem_lane_modLane (by intro l; rfl)]
  rfl

/-! ## A request that is taken -/

/-- R300: the engine has taken `d` and not executed it yet. -/
def State.taking (d : Descriptor) (s : State) : State :=
  s.modReq (fun q => { q with busy := true, cur := d, phase := .validate })

/-- R300: a ready engine takes the request and executes it in one step. -/
theorem exec_request_of_ready {i : Instr} {d : Descriptor} (hi : requestParts i = some (d.opcode, d.ops))
    (hb : s.req.busy = false) (ho : s.ctlOut = []) : exec i s = .next ((execute d (s.taking d)).setRet .unit) := by
  rw [exec_of_requestParts hi]
  exact if_pos (by simp [takeReady, hb, ho])

theorem reqDone_taking (d : Descriptor) (op : Byte) (r : Result) (s : State) : reqDone op r (s.taking d) =
    { s with ctlOut := s.ctlOut ++ [.reqDone op r],
             req := { s.req with busy := true, cur := d, phase := .done } } := rfl

theorem beginScan_taking (d : Descriptor) (s : State) : beginScan (s.taking d) =
    { startScan s with req := { s.req with busy := true, cur := d, phase := .scan } } := rfl

theorem stopLane_taking (p : Nat) (d : Descriptor) (s : State) :
    stopLane p (s.taking d) = (stopLane p s).taking d := by
  by_cases hq : (s.lane p).txq.any (fun i => i.owner = .request) = true <;>
    simp only [stopLane_eq, State.taking, State.lane_modReq, hq, if_true] <;> rfl

theorem teardownActive_taking (reason : Reason) (d : Descriptor) (s : State) :
    teardownActive reason (s.taking d) = (teardownActive reason s).taking d := by
  by_cases hc : s.conn = .connected
  · rw [teardownActive_of_connected hc, teardownActive_of_connected (s := s.taking d) hc,
      show (s.taking d).active = s.active from rfl, stopLane_taking]
    rfl
  · rw [teardownActive_of_not_connected hc, teardownActive_of_not_connected (s := s.taking d) hc]

/-- The parts of the state that a teardown inside a request can change, outside a scan. -/
theorem ConnInv.teardownActive_frame (h : ConnInv s) (hc : s.conn ≠ .scanning) (reason : Reason) :
    ∃ lanes send, Machine.teardownActive reason s = { s with
      conn := .disconnected, active := noPort, lanes := lanes, req := { s.req with send := send },
      ctlOut := s.ctlOut ++ if s.conn = .connected then [.disconnected reason] else [] } := by
  obtain ⟨-, -, -, -, hact, hno, -⟩ := h.control
  by_cases hcon : s.conn = .connected
  · obtain ⟨-, -, -, -, idle, -⟩ := h.port (hact hcon)
    have hping : (s.probe s.active).st ≠ .pinging := by rw [idle hc]; nofun
    rw [teardownActive_of_connected hcon, if_pos hcon, stopLane_frame_of_not_pinging hping, stopLane_req]
    exact ⟨_, _, rfl⟩
  · have hdis := teardownActive_conn reason hc
    rw [teardownActive_of_not_connected hcon] at hdis ⊢
    refine ⟨s.lanes, s.req.send, ?_⟩
    rw [if_neg hcon, List.append_nil, ← hno hcon, ← hdis]

theorem teardownActive_pin (reason : Reason) (s : State) (q : Nat) : (teardownActive reason s).pin q = s.pin q := by
  rcases teardownActive_cases reason s with ⟨-, e⟩ | ⟨-, e⟩ <;> rw [e]
  simp [State.pin]

theorem teardownActive_mem (reason : Reason) (s : State) (q : Nat) :
    ((teardownActive reason s).lane q).rb.mem = (s.lane q).rb.mem := by
  rcases teardownActive_cases reason s with ⟨-, e⟩ | ⟨-, e⟩ <;> rw [e]
  exact stopLane_mem s.active s q

/-- Outside a scan, a teardown leaves every lane closed. -/
theorem ConnInv.closed_of_teardownActive (h : ConnInv s) (hc : s.conn ≠ .scanning) (reason : Reason) {q : Nat}
    (hq : q < s.params.nPorts) : ((Machine.teardownActive reason s).lane q).role = .closed := by
  rw [← teardownActive_params reason s] at hq
  obtain ⟨-, -, closed, -⟩ := (h.teardownActive reason).port hq
  exact closed (teardownActive_conn reason hc)

/-! ## The connection requests -/

theorem execute_scan (s : State) : execute ⟨0x03#8, []⟩ s = scanRequest 0x03#8 s := rfl

theorem execute_reconnect (s : State) : execute ⟨0x02#8, []⟩ s = reconnect 0x02#8 s := rfl

theorem execute_disconnect (s : State) : execute ⟨0x04#8, []⟩ s = disconnect 0x04#8 s := rfl

theorem execute_manualConnect {ops : List Byte} (hlen : ops.length = 5) (hp : (byteAt ops 0).toNat < s.params.nPorts) :
    execute ⟨0x01#8, ops⟩ s = manualConnect 0x01#8 (byteAt ops 0).toNat (le32 ops 1) s := by
  have hkind : reqKind 0x01#8 = some .manualConnect := rfl
  simp [execute, requestError, hkind, wellFormedReq, hlen, hp, ReqKind.needsConnection, runRequest]

/-- R273: DISCONNECT ends a connection, if there is one, and is refused in Scanning. -/
theorem disconnect_eq (op : Byte) (s : State) : disconnect op s =
    reqDone op (if s.conn = .scanning then .badState else .ok) (teardownActive .requested s) := by
  cases hc : s.conn <;> simp [disconnect, teardownActive, hc]

theorem manualConnect_of_scanning (hc : s.conn = .scanning) (op : Byte) (p : Nat) (baud : Word) :
    manualConnect op p baud s = reqDone op .badState s := by
  simp only [manualConnect, hc]

theorem reconnect_of_scanning (hc : s.conn = .scanning) (op : Byte) : reconnect op s = reqDone op .badState s := by
  simp only [reconnect, hc]

/-- R274: RECONNECT ends a connection, if there is one, before it scans. -/
theorem reconnect_of_not_scanning (hc : s.conn ≠ .scanning) (op : Byte) :
    reconnect op s = beginScan (teardownActive .reconnect s) := by
  cases hx : s.conn with
  | scanning => exact absurd hx hc
  | disconnected | connected => simp [reconnect, teardownActive, hx]

/-- R272: outside a scan, a port that does not open leaves the teardown and OPEN_FAIL. -/
theorem manualConnect_of_no_open {baud : Word} (hc : s.conn ≠ .scanning)
    (hno : baud = 0 ∨ (s.pin p).openOk = false) (op : Byte) : manualConnect op p baud s =
      reqDone op .openFail ((teardownActive .requested s).post (.disconnected .openFail)) := by
  rw [← teardownActive_pin .requested s] at hno
  cases hx : s.conn with
  | scanning => exact absurd hx hc
  | disconnected | connected => simp only [manualConnect, hx, openLane, if_pos hno]

/-- R272: outside a scan, a port that opens becomes the connection after the teardown. -/
theorem manualConnect_of_open {baud : Word} (hc : s.conn ≠ .scanning) (hopen : ¬ (baud = 0 ∨ (s.pin p).openOk = false))
    (op : Byte) : manualConnect op p baud s = reqDone op .ok (becomeConnected p
      ((teardownActive .requested s).modLane p (Lane.opened .active baud (teardownActive .requested s).regs))) := by
  rw [← teardownActive_pin .requested s] at hopen
  cases hx : s.conn with
  | scanning => exact absurd hx hc
  | disconnected | connected => simp only [manualConnect, hx, openLane, if_neg hopen]

end

end Sys2Proof.Machine

section
open Sys2Proof Sys2Proof.Machine

/-- Settles O41: the teardown is the stop of the active lane. -/
theorem teardownEndsTheConnection : Obligations.TeardownEndsTheConnection := by
  refine fun s reason => ⟨exec_teardownActive_of_not_connected reason, fun hc hact => ?_⟩
  refine ⟨_, _, exec_stopLane s.active s, exec_teardownActive reason hc, ?_⟩
  rw [teardownActive_of_connected hc]
  refine ⟨rfl, stopLane_regs s.active s, ?_⟩
  exact congrArg Lane.role (stopLane_lane_same s hact)

/-- Settles O43: DISCONNECT is a teardown, where it is not refused. -/
theorem disconnectByState : Obligations.DisconnectByState := by
  intro s hb ho hact
  rw [exec_request_of_ready (d := ⟨0x04#8, []⟩) rfl hb ho, execute_disconnect, disconnect_eq, teardownActive_taking,
    reqDone_taking]
  have hconn : (s.taking ⟨0x04#8, []⟩).conn = s.conn := rfl
  by_cases hc : s.conn = .connected
  · have hlt := hact.resolve_right (not_not.2 hc)
    rw [hconn, if_neg (by rw [hc]; nofun), teardownActive_of_connected hc]
    refine ⟨_, rfl, ?_, fun q => stopLane_lane_ne s, stopLane_mem s.active s, fun _ => ⟨?_, rfl, rfl, ?_,
      fun q => stopLane_probe_ne s, stopLane_probes_of_not_pinging, _, exec_teardownActive .requested hc, ?_⟩,
      by rw [hc]; nofun, by rw [hc]; nofun⟩
    · rw [stopLane_frame s.active s]; rfl
    · rw [ho]; rfl
    · exact congrArg Lane.role (stopLane_lane_same s hlt)
    · rw [teardownActive_of_connected hc]; rfl
  · rw [hconn, teardownActive_of_not_connected hc, ho]
    refine ⟨_, rfl, rfl, fun _ _ => rfl, fun _ => rfl, fun hx => absurd hx hc, fun hx => ?_, fun hx => ?_⟩
    · rw [if_neg (by rw [hx]; nofun)]; rfl
    · rw [if_pos hx]; rfl

/-- Settles O42: the teardown, then the port opens or does not. -/
theorem manualConnectByState : Obligations.ManualConnectByState := by
  intro s ops hi hb ho hlen hp
  rw [exec_request_of_ready (d := ⟨0x01#8, ops⟩) rfl hb ho, execute_manualConnect (s := s.taking _) hlen hp]
  by_cases hc : s.conn = .scanning
  · rw [manualConnect_of_scanning (s := s.taking _) hc, reqDone_taking, ho]
    exact ⟨_, rfl, rfl, fun _ => rfl, fun _ => ⟨rfl, rfl, rfl⟩, absurd hc, absurd hc⟩
  have hmem := teardownActive_mem .requested s
  have hclosed := fun q => hi.closed_of_teardownActive hc .requested (q := q)
  have hlanes := (hi.teardownActive .requested).lanes_length
  obtain ⟨lanes, send, hframe⟩ := hi.teardownActive_frame hc .requested
  rw [hframe] at hmem hclosed hlanes
  generalize (byteAt ops 0).toNat = p at *
  by_cases hopen : le32 ops 1 = 0 ∨ (s.pin p).openOk = false
  · rw [manualConnect_of_no_open (s := s.taking _) hc hopen, teardownActive_taking, hframe]
    refine ⟨_, rfl, rfl, hmem, fun hx => absurd hx hc, fun _ hbaud hok => ?_, fun _ _ => ⟨rfl, rfl, ?_, hclosed, rfl⟩⟩
    · exact absurd hopen (not_or.2 ⟨hbaud, by simp [hok]⟩)
    · simp [reqDone_eq, State.taking, ho]
  · rw [manualConnect_of_open (s := s.taking _) hc hopen, teardownActive_taking, hframe]
    rw [← hlanes] at hp
    have hsame := State.lane_modLane_same _ (Lane.opened .active (le32 ops 1) s.regs) hp
    refine ⟨_, rfl, rfl, fun q => (State.mem_lane_modLane (by intro l; rfl) q).trans (hmem q), fun hx => absurd hx hc,
      fun _ _ _ => ⟨rfl, rfl, ?_, fun q hq => ?_, congrArg Lane.baud hsame, congrArg Lane.txq hsame,
        congrArg (fun l : Lane => l.rb.count) hsame, rfl⟩, fun _ hno => absurd hno hopen⟩
    · simp [reqDone_eq, becomeConnected_eq, State.taking, ho]
    · by_cases hqp : q = p
      · rw [if_pos hqp, hqp]; exact congrArg Lane.role hsame
      · rw [if_neg hqp, ← hclosed q hq]; exact congrArg Lane.role (State.lane_modLane_ne _ _ hqp)

/-- Settles O44: a scan starts as START_SCAN does, after the teardown of a connection that RECONNECT ends. -/
theorem scanAndReconnectByState : Obligations.ScanAndReconnectByState := by
  intro s hi hb ho
  rw [exec_request_of_ready (i := .scan []) (d := ⟨0x03#8, []⟩) rfl hb ho, execute_scan,
    exec_request_of_ready (i := .reconnect []) (d := ⟨0x02#8, []⟩) rfl hb ho, execute_reconnect]
  refine ⟨⟨_, rfl, ?_⟩, ⟨_, rfl, ?_⟩⟩
  · by_cases hc : s.conn = .disconnected
    · rw [scanRequest, if_pos (by exact hc), beginScan_taking]
      exact ⟨rfl, rfl, rfl, fun _ => rfl, fun _ => ⟨rfl, rfl, ho, rfl, rfl, rfl, rfl, rfl, _, exec_startScan s, rfl⟩,
        fun hx => absurd hc hx⟩
    · rw [scanRequest, if_neg (by exact hc), reqDone_taking, ho]
      exact ⟨rfl, rfl, rfl, fun _ => rfl, fun hx => absurd hx hc, fun _ => rfl⟩
  · by_cases hsc : s.conn = .scanning
    · rw [reconnect_of_scanning (s := s.taking _) hsc, reqDone_taking, ho]
      exact ⟨rfl, rfl, rfl, fun _ => rfl, by rw [hsc]; nofun, by rw [hsc]; nofun, fun _ => rfl⟩
    · rw [reconnect_of_not_scanning (s := s.taking _) hsc, teardownActive_taking, beginScan_taking]
      by_cases hc : s.conn = .connected
      · have hmem := teardownActive_mem .reconnect s
        have hclosed := fun q => hi.closed_of_teardownActive hsc .reconnect (q := q)
        obtain ⟨lanes, send, hframe⟩ := hi.teardownActive_frame hsc .reconnect
        rw [if_pos hc, ho] at hframe
        rw [hframe] at hmem hclosed
        rw [exec_teardownActive .reconnect hc, hframe]
        exact ⟨rfl, rfl, rfl, hmem, fun hx => absurd (hx.symm.trans hc) nofun, fun _ => ⟨rfl, rfl, rfl, rfl, rfl, rfl,
          rfl, rfl, hclosed, _, _, rfl, exec_startScan _, rfl⟩, fun hx => absurd hx hsc⟩
      · rw [teardownActive_of_not_connected hc]
        exact ⟨rfl, rfl, rfl, fun _ => rfl, fun _ => ⟨rfl, rfl, ho, rfl, rfl, _, exec_startScan s, rfl⟩,
          fun hx => absurd hx hc, fun hx => absurd hx hsc⟩

end

/-! # The protocol engine: requests and inbound frames (44_protocol.md R300-R311, R320-R327) -/

namespace Sys2Proof.Machine

section
variable {s : State} {k : ReqKind} {op c : Byte} {ops payload : List Byte}

/-! ## The request an opcode names -/

/-- R121-R128: the opcode byte of each request. -/
def ReqKind.opcode : ReqKind → Byte
  | .manualConnect => 0x01#8
  | .reconnect => 0x02#8
  | .scan => 0x03#8
  | .disconnect => 0x04#8
  | .getConfig => 0x05#8
  | .getStatus => 0x06#8
  | .setStimulation => 0x07#8
  | .setPhases => 0x08#8
  | .setEnable => 0x09#8

theorem reqKind_opcode (k : ReqKind) : reqKind k.opcode = some k := by cases k <;> rfl

theorem opcode_of_reqKind (h : reqKind op = some k) : op = k.opcode := by
  unfold reqKind at h
  split at h <;> cases h <;> exact BitVec.eq_of_toNat_eq ‹_›

theorem opcode_not_reserved (k : ReqKind) : ¬ (k.opcode = 0x00#8 ∨ 0x0A ≤ k.opcode.toNat) := by
  cases k <;> decide

/-- R129, R146: the opcodes that are no request's are the reserved ones. -/
theorem reqKind_eq_none_iff : reqKind op = none ↔ op = 0x00#8 ∨ 0x0A ≤ op.toNat := by
  constructor
  · intro h
    unfold reqKind at h
    split at h
    case h_10 =>
      simp only [imp_false] at *
      bv_omega
    all_goals cases h
  · intro h
    cases hk : reqKind op with
    | none => rfl
    | some k => exact absurd (opcode_of_reqKind hk ▸ h) (opcode_not_reserved k)

/-! ## The checks of Execute -/

/-- R302, R121-R128: the operands are not those of the request that the opcode names. An `abbrev`, so that it is seen to be
decidable. -/
abbrev BadOperands (nPorts : Nat) (op : Byte) (ops : List Byte) : Prop :=
  (op = 0x01#8 ∧ (ops.length ≠ 5 ∨ nPorts ≤ (byteAt ops 0).toNat)) ∨
  ((op = 0x02#8 ∨ op = 0x03#8 ∨ op = 0x04#8 ∨ op = 0x05#8 ∨ op = 0x06#8) ∧ ops.length ≠ 0) ∨
  (op = 0x07#8 ∧ (ops.length = 0 ∨ 3 < (byteAt ops 0).toNat ∨
    ops.length ≠ [21, 33, 33, 37].getD (byteAt ops 0).toNat 0)) ∨
  (op = 0x08#8 ∧ ops.length % 4 ≠ 0) ∨ (op = 0x09#8 ∧ ops.length ≠ 1)

/-- R124: the operand lengths of the four variants. -/
theorem stimOlen_eq_some_iff (v : Byte) (n : Nat) :
    stimOlen v = some n ↔ v.toNat ≤ 3 ∧ n = [21, 33, 33, 37].getD v.toNat 0 := by
  unfold stimOlen
  split
  case h_5 =>
    simp only [imp_false] at *
    exact ⟨nofun, fun ⟨hv, _⟩ => by omega⟩
  all_goals
    rename_i hv
    rw [hv, Option.some_inj]
    exact ⟨fun h => ⟨by decide, h.symm⟩, fun h => h.2.symm⟩

/-- R302: the operand check, request by request. -/
theorem wellFormedReq_eq_false_iff (nPorts : Nat) (k : ReqKind) (ops : List Byte) :
    wellFormedReq nPorts k ops = false ↔ BadOperands nPorts k.opcode ops := by
  cases k <;>
    simp [wellFormedReq, BadOperands, ReqKind.opcode, stimOlen_eq_some_iff, imp_iff_not_or, -List.getD_eq_getElem?_getD]

/-- R124: operands as long as their variant asks are not empty. -/
theorem wellFormedReq_setStimulation (nPorts : Nat) (h : stimOlen (byteAt ops 0) = some ops.length) :
    wellFormedReq nPorts .setStimulation ops = true := by
  cases ops with
  | nil => exact absurd h (by decide)
  | cons b ops => simp [wellFormedReq, h]

theorem needsConnection_iff (k : ReqKind) : k.needsConnection = true ↔ 0x05 ≤ k.opcode.toNat := by
  cases k <;> decide

theorem eq_setPhases_iff (k : ReqKind) : k = .setPhases ↔ k.opcode = 0x08#8 := by
  cases k <;> decide

/-- R311: a reserved opcode fails the first check. -/
theorem requestError_of_reserved (d : Descriptor) (h : reqKind d.opcode = none) :
    requestError d s = some .badOpcode := by
  simp only [requestError, h]

/-- R302, R347: the checks of a request that is one, in their order. -/
theorem requestError_opcode (k : ReqKind) (ops : List Byte) (s : State) :
    requestError ⟨k.opcode, ops⟩ s =
      if BadOperands s.params.nPorts k.opcode ops then some .badRequest
      else if k.opcode = 0x08#8 ∧ 63 < ops.length / 4 then some .phaseCap
      else if 0x05 ≤ k.opcode.toNat ∧ s.conn ≠ .connected then some .notConnected
      else none := by
  simp only [requestError, reqKind_opcode, wellFormedReq_eq_false_iff, needsConnection_iff, eq_setPhases_iff, gt_iff_lt]

theorem execute_of_error {d : Descriptor} {r : Result} (h : requestError d s = some r) :
    execute d s = reqDone d.opcode r s := by
  simp only [execute, h]

theorem execute_of_passed (h : requestError ⟨k.opcode, ops⟩ s = none) :
    execute ⟨k.opcode, ops⟩ s = runRequest k k.opcode ops s := by
  simp only [execute, h, reqKind_opcode]

theorem exec_execute (d : Descriptor) (s : State) : exec (.execute d) s = .next ((execute d s).setRet .unit) := rfl

/-! ## Protocol requests -/

/-- R303: ProtocolSend on an open lane hands it the frame, and the request waits for it. -/
theorem protocolSend_of_open (ho : (s.lane s.active).role ≠ .closed) (hlen : payload.length ≤ 255) (c : Byte) :
    protocolSend c payload s = ({ s with req := { s.req with phase := .send, send := .pending } } : State).modLane
      s.active (Lane.queued ⟨frameBytes c payload, .request⟩ s.now) := by
  rcases sendFrame_cases s.active c payload .request (s.modReq fun q => { q with phase := .send })
    with ⟨hlong | hclosed, -⟩ | ⟨-, -, e⟩
  · omega
  · exact absurd hclosed ho
  · rw [protocolSend, e]
    rfl

theorem exec_protocolSend (c : Byte) (payload : List Byte) (s : State) :
    exec (.protocolSend c payload) s = .next ((protocolSend c payload s).setRet .unit) := rfl

/-- R304-R310: the code and payload of the frame of a protocol request. -/
def protocolFrame (pr : Params) (ops : List Byte) : ReqKind → Option (Byte × List Byte)
  | .getConfig => some (pr.code.getConfig, [])
  | .getStatus => some (pr.code.getStatus, [])
  | .setStimulation => some (pr.code.setStimulation, stimPayload pr.stimCode ops)
  | .setPhases => some (pr.code.setPhases, ops)
  | .setEnable => some (pr.code.enableDisable, enablePayload ops)
  | .manualConnect | .reconnect | .scan | .disconnect => none

/-- R304-R310: the operation of a protocol request is ProtocolSend of its frame. -/
theorem runRequest_of_protocolFrame (h : protocolFrame s.params ops k = some (c, payload)) (op : Byte) :
    runRequest k op ops s = protocolSend c payload s := by
  cases k <;> cases h <;> rfl

/-- R302: in Connected, a protocol request with its operands in form runs. -/
theorem execute_of_protocolFrame (h : protocolFrame s.params ops k = some (c, payload))
    (hw : wellFormedReq s.params.nPorts k ops = true) (hcap : k = .setPhases → ops.length / 4 ≤ 63)
    (hc : s.conn = .connected) : execute ⟨k.opcode, ops⟩ s = protocolSend c payload s := by
  have hpass : requestError ⟨k.opcode, ops⟩ s = none := by
    have hphases : ¬ (k = .setPhases ∧ 63 < ops.length / 4) := fun ⟨hk, hlt⟩ => by have := hcap hk; omega
    simp [requestError, reqKind_opcode, hw, hphases, hc]
  rw [execute_of_passed hpass, runRequest_of_protocolFrame h]

theorem enablePayload_eq (ops : List Byte) :
    enablePayload ops = if byteAt ops 0 = 0 then [0x00#8] else [0x01#8] := by
  rw [enablePayload, ite_not]
  exact apply_ite (fun b : Byte => [b]) _ _ _

/-! ## The steps of the request engine -/

theorem exec_sendComplete_of_sent {ok : Bool} (hp : s.req.phase = .send)
    (hs : s.req.send = if ok then .ok else .fail) :
    exec (.requestEngineSteps .sendComplete) s = .next ((finish s.req.cur ok s).setRet .unit) := by
  show execSendComplete s = _
  cases ok <;> simp [execSendComplete, hp, hs, answer_eq]

theorem exec_sendComplete_of_waiting (h : s.req.phase ≠ .send ∨ s.req.send = .pending) :
    exec (.requestEngineSteps .sendComplete) s = .next (s.setRet .waits) := by
  show execSendComplete s = _
  rcases h with h | h <;> simp [execSendComplete, h, waits_eq]

theorem exec_scanComplete_of_ended {r : Result} (hp : s.req.phase = .scan) (ha : s.scan.active = false)
    (hr : s.scan.result = .ok ∧ r = .ok ∨ s.scan.result = .noDevice ∧ r = .noDevice) :
    exec (.requestEngineSteps .scanComplete) s = .next ((reqDone s.req.cur.opcode r s).setRet .unit) := by
  show execScanComplete s = _
  rcases hr with ⟨hres, rfl⟩ | ⟨hres, rfl⟩ <;> simp [execScanComplete, hp, ha, hres, answer_eq]

theorem exec_scanComplete_of_waiting (h : s.req.phase ≠ .scan ∨ s.scan.active = true) :
    exec (.requestEngineSteps .scanComplete) s = .next (s.setRet .waits) :=
  if_neg fun ⟨hp, ha⟩ => h.elim (· hp) fun ht => absurd (ht.symm.trans ha) nofun

theorem exec_retire_of_done (hp : s.req.phase = .done) (ho : s.ctlOut = []) :
    exec (.requestEngineSteps .retire) s =
      .next ((s.modReq fun q => { q with busy := false, phase := .idle }).setRet .unit) := if_pos ⟨hp, ho⟩

theorem exec_retire_of_waiting (h : s.req.phase ≠ .done ∨ s.ctlOut ≠ []) :
    exec (.requestEngineSteps .retire) s = .next (s.setRet .waits) :=
  if_neg fun ⟨hp, ho⟩ => h.elim (· hp) (· ho)

/-- R300: Take of a descriptor is the row that its opcode names. -/
theorem exec_take (d : Descriptor) (s : State) :
    exec (.requestEngineSteps (.take d)) s = exec (requestInstr d.opcode d.ops) s :=
  (exec_of_requestParts (requestParts_requestInstr_eq d.opcode d.ops) s).symm

/-- R300: while a request is in progress, or an event is left in the outbox, no request is taken. -/
theorem exec_request_of_not_ready {i : Instr} (hi : requestParts i = some (op, ops))
    (h : s.req.busy = true ∨ s.ctlOut ≠ []) : exec i s = .next (s.setRet .waits) := by
  rw [exec_of_requestParts hi]
  exact if_neg (by rcases h with h | h <;> simp [takeReady, h])

/-! ## Inbound frames -/

/-- R320-R325: what is decoded of each response, the seven codes being different. -/
theorem inboundTyped_of_responses (hw : s.params.wf) (f : Frame) :
    (f.code = s.params.code.returnConfig → inboundTyped f s = decodeConfig f s) ∧
    (f.code = s.params.code.returnStatus → inboundTyped f s = decodeStatus f s) ∧
    (f.code = s.params.code.error → inboundTyped f s = decodeError f s) ∧
    (∀ k, (f.code, k) ∈ [(s.params.code.ack, AckKind.ack), (s.params.code.nack, .nack), (s.params.code.sack, .sack)] →
      inboundTyped f s = (s, [.ackReceived k])) ∧
    (f.code = s.params.code.pingAck ∨ f.code ∉ s.params.code.responses → inboundTyped f s = (s, [])) := by
  obtain ⟨-, -, -, -, -, -, hresp, -⟩ := hw
  simp only [Codes.responses, List.nodup_cons, List.mem_cons, List.not_mem_nil, or_false, not_or, Prod.mk.injEq]
    at hresp ⊢
  obtain ⟨⟨ackNack, ackPing, ackCfg, ackSts, ackSack, ackErr⟩, ⟨nackPing, nackCfg, nackSts, nackSack, nackErr⟩,
    ⟨pingCfg, pingSts, pingSack, pingErr⟩, ⟨cfgSts, cfgSack, cfgErr⟩, ⟨stsSack, stsErr⟩, sackErr, -⟩ := hresp
  unfold inboundTyped
  refine ⟨fun h => if_pos h, fun h => ?_, fun h => ?_, fun k h => ?_, fun h => ?_⟩
  · rw [h, if_neg (Ne.symm cfgSts), if_pos rfl]
  · rw [h, if_neg (Ne.symm cfgErr), if_neg (Ne.symm stsErr), if_pos rfl]
  · rcases h with ⟨h, rfl⟩ | ⟨h, rfl⟩ | ⟨h, rfl⟩
    · rw [h, if_neg ackCfg, if_neg ackSts, if_neg ackErr, if_pos rfl]
    · rw [h, if_neg nackCfg, if_neg nackSts, if_neg nackErr, if_neg (Ne.symm ackNack), if_pos rfl]
    · rw [h, if_neg (Ne.symm cfgSack), if_neg (Ne.symm stsSack), if_neg sackErr, if_neg (Ne.symm ackSack),
        if_neg (Ne.symm nackSack), if_pos rfl]
  · rcases h with h | ⟨hack, hnack, -, hcfg, hsts, hsack, herr⟩
    · rw [h, if_neg pingCfg, if_neg pingSts, if_neg pingErr, if_neg (Ne.symm ackPing), if_neg (Ne.symm nackPing),
        if_neg pingSack]
    · rw [if_neg hcfg, if_neg hsts, if_neg herr, if_neg hack, if_neg hnack, if_neg hsack]

theorem exec_inbound_of_typed {f : Frame} {t : State} {evs : List Event} (h : inboundTyped f s = (t, evs)) :
    exec (.inbound f) s = .next (t.setRet (.events (.frameReceived f.raw :: evs))) := by
  rw [exec_inbound, inbound, h]

end

end Sys2Proof.Machine

section
open Sys2Proof Sys2Proof.Machine

/-- Settles O46: a refused request is answered with the first check that it fails. -/
theorem executeChecksInOrder : Obligations.ExecuteChecksInOrder := by
  intro s op ops r hr
  have herror : requestError ⟨op, ops⟩ s = some r := by
    cases hk : reqKind op with
    | none =>
      rw [if_pos (reqKind_eq_none_iff.1 hk)] at hr
      rw [requestError_of_reserved _ hk, hr]
    | some k =>
      obtain rfl := opcode_of_reqKind hk
      rw [if_neg (opcode_not_reserved k)] at hr
      rw [requestError_opcode]
      by_cases hbad : BadOperands s.params.nPorts k.opcode ops
      · rw [if_pos hbad] at hr ⊢
        rw [hr]
      rw [if_neg hbad] at hr ⊢
      by_cases hcap : k.opcode = 0x08#8 ∧ 63 < ops.length / 4
      · rw [if_pos hcap] at hr ⊢
        rw [hr]
      rw [if_neg hcap] at hr ⊢
      obtain ⟨hop, hc, rfl⟩ := hr
      rw [if_pos ⟨hop, hc⟩]
  rw [exec_execute, execute_of_error herror]
  rfl

/-- Settles O47: each of the five requests is ProtocolSend of its frame, and ProtocolSend hands it to the lane. -/
theorem protocolRequestsHandOneFrame : Obligations.ProtocolRequestsHandOneFrame := by
  intro s c payload hc _ ho hlen handed
  refine ⟨by rw [exec_protocolSend, protocolSend_of_open ho hlen]; rfl, fun i op ops hrow => ?_⟩
  obtain ⟨k, rfl, hparts, hw, hcap, hframe⟩ : ∃ k : ReqKind, op = k.opcode ∧ requestParts i = some (op, ops) ∧
      wellFormedReq s.params.nPorts k ops = true ∧ (k = .setPhases → ops.length / 4 ≤ 63) ∧
      protocolFrame s.params ops k = some (c, payload) := by
    rcases hrow with ⟨rfl, rfl, rfl, rfl, rfl⟩ | ⟨rfl, rfl, rfl, rfl, rfl⟩ | ⟨rfl, hv, rfl, rfl, rfl⟩ |
      ⟨rfl, hmod, hcap, rfl, rfl, rfl⟩ | ⟨rfl, hone, rfl, rfl, rfl⟩
    · exact ⟨.getConfig, rfl, rfl, rfl, nofun, rfl⟩
    · exact ⟨.getStatus, rfl, rfl, rfl, nofun, rfl⟩
    · exact ⟨.setStimulation, rfl, rfl, wellFormedReq_setStimulation _ hv, nofun, rfl⟩
    · exact ⟨.setPhases, rfl, rfl, by simp [wellFormedReq, hmod], fun _ => hcap, rfl⟩
    · exact ⟨.setEnable, rfl, rfl, by simp [wellFormedReq, hone], nofun, by rw [← enablePayload_eq]; rfl⟩
  constructor
  · rw [exec_execute, execute_of_protocolFrame hframe hw hcap hc, protocolSend_of_open ho hlen]
    rfl
  · intro hb hout
    rw [exec_request_of_ready (d := ⟨k.opcode, ops⟩) hparts hb hout,
      execute_of_protocolFrame (s := s.taking _) hframe hw hcap hc, protocolSend_of_open (s := s.taking _) ho hlen]
    rfl

/-- Settles O45: a reserved opcode fails the first check of Execute, and nothing else of the request is looked at. -/
theorem reservedOpcodesAreAnswered : Obligations.ReservedOpcodesAreAnswered := by
  intro s i op ops hb ho hi hres
  have herror : requestError ⟨op, ops⟩ (s.taking ⟨op, ops⟩) = some .badOpcode :=
    requestError_of_reserved _ (reqKind_eq_none_iff.2 hres)
  rw [exec_request_of_ready (d := ⟨op, ops⟩) hi hb ho, execute_of_error herror, reqDone_taking, ho]
  rfl

/-- Settles O49: Finish with the frame's outcome, once there is one. -/
theorem sendCompletePostsTheResult : Obligations.SendCompletePostsTheResult := by
  refine fun s => ⟨fun hp hs => ?_, fun hp hs => ?_, exec_sendComplete_of_waiting⟩
  · rw [exec_sendComplete_of_sent (ok := true) hp hs, finish_eq]
    by_cases hop : s.req.cur.opcode = 0x07#8
    · rw [if_pos (⟨rfl, hop⟩ : true = true ∧ _), if_pos hop]; rfl
    · rw [if_neg fun h : true = true ∧ _ => hop h.2, if_neg hop, List.append_nil]; rfl
  · rw [exec_sendComplete_of_sent (ok := false) hp hs]
    rfl

/-- Settles O50, step by step, by whether the step is enabled. -/
theorem scanCompleteAndRetire : Obligations.ScanCompleteAndRetire := by
  refine fun s => ⟨fun hp ha r hr => ?_, exec_scanComplete_of_waiting, fun hp ho => exec_retire_of_done hp ho,
    exec_retire_of_waiting⟩
  rw [exec_scanComplete_of_ended hp ha (by simpa using hr)]
  rfl

/-- Settles O51: Take and the row of the opcode are one step, and a step of Execute keeps the request it runs. -/
theorem takeRunsTheRow : Obligations.TakeRunsTheRow := by
  intro s d
  have hrow := requestParts_requestInstr_eq d.opcode d.ops
  rw [exec_take]
  refine ⟨fun hb ho => ?_, fun h => ⟨exec_request_of_not_ready hrow h, exec_request_of_not_ready hrow h⟩,
    fun i hi => (requestInstr_of_requestParts hi).symm⟩
  have htaken := exec_request_of_ready hrow hb ho
  obtain ⟨busy, cur, -⟩ := Progress.execute (s := s.taking d) nofun d
  exact ⟨_, exec_execute d _, htaken, htaken, busy, cur⟩

/-- Settles O23: what each of the seven response codes decodes to, by the length of the payload. -/
theorem inboundEvents : Obligations.InboundEvents := by
  intro s f hw
  obtain ⟨config, status, error, acks, others⟩ := inboundTyped_of_responses hw f
  refine ⟨fun hc hlen => exec_inbound_of_typed ?_, fun hc hlen => exec_inbound_of_typed ?_,
    fun h => exec_inbound_of_typed ?_, fun e rest hc hp => exec_inbound_of_typed ?_,
    fun k hk => exec_inbound_of_typed (acks k hk), fun h => exec_inbound_of_typed (others h)⟩
  · rw [config hc, decodeConfig, if_neg (by omega)]
    rfl
  · rw [status hc, decodeStatus, if_neg (by omega)]
    rfl
  · rcases h with ⟨hc, hlen⟩ | ⟨hc, hlen⟩ | ⟨hc, hp⟩
    · rw [config hc, decodeConfig, if_pos hlen]
    · rw [status hc, decodeStatus, if_pos hlen]
    · simp only [error hc, decodeError, hp]
      rfl
  · simp only [error hc, decodeError, hp]

end

/-! # The reset input (70_reset_and_hazards.md R370, R374) -/

namespace Sys2Proof.Machine

theorem exec_reset (s : State) : exec .reset s = .next ((resetBlock s).setRet .unit) := rfl

/-- R370: what the reset input keeps of the state: time, the parameters and the environment's side of the boundary. -/
theorem resetBlock_eq (s : State) : resetBlock s =
    { State.resetOf s.params s.pins with
        lanes := (resetBlock s).lanes, probes := s.probes.map (fun _ => Probe.reset), now := s.now,
        inputs := s.inputs, delivered := s.delivered, ret := s.ret } := rfl

theorem resetBlock_lanes_length (s : State) : (resetBlock s).lanes.length = s.lanes.length := List.length_mapIdx

theorem resetBlock_lane {s : State} {q : Nat} (hq : q < s.lanes.length) :
    (resetBlock s).lane q = (s.lane q).afterReset (s.pin q).cut := by
  simp [resetBlock, State.lane, State.pin, hq]

/-- R370, R374: what the reset input leaves of a lane; of a frame being sent the bytes before the cut have left. -/
theorem Lane.afterReset_eq (cut : Nat) (l : Lane) : l.afterReset cut =
    { role := .closed, baud := 0, readTo := 0, writeTo := 0, stg := [], rx := .stopped, txq := [], txStart := 0,
      wt := false, rb := { l.rb with r := 0, w := 0, count := 0 },
      txd := l.txd ++ ((l.txq.map (fun i => i.bytes)).headD []).take (if l.wt then cut else 0) } := by
  rw [← Lane.cutTx_eq]; rfl

end Sys2Proof.Machine

section
open Sys2Proof Sys2Proof.Machine

/-- Settles O52: the state part by part, then each lane; a lane that sends is cut where its pin says, an idle one sends
nothing more. -/
theorem resetInput : Obligations.ResetInput := by
  intro s
  refine ⟨_, exec_reset s, ?_, resetBlock_lanes_length s, fun q hq => ?_⟩
  · exact congrArg (State.setRet · .unit) (resetBlock_eq s)
  · have hlane : ((resetBlock s).setRet .unit).lane q = (s.lane q).afterReset (s.pin q).cut := resetBlock_lane hq
    exact ⟨if (s.lane q).wt then (s.pin q).cut else 0, hlane.trans (Lane.afterReset_eq _ _)⟩

end
